-- ==== Sys2Proof/Word.lean ====
section
/-! DEFINITION. The basic values of the DN6410: bytes, serials, keys, slots, channels, per-channel triples,
and tables of a fixed number of records. -/

namespace Sys2Proof

/-- One byte of a parameter block, a response or a tile-chain frame (R203, R206). -/
abbrev Byte := BitVec 8

/-- A tile serial: 48 bits (chapter 00, "Numbering of slots, positions and profiles"). -/
abbrev Serial := BitVec 48

/-- A show key: a 32-bit value (R186). -/
abbrev Key := BitVec 32

/-- A chain slot, 0..63. -/
abbrev Slot := Fin 64

/-- The three channels; they appear in the order R, G, B wherever a value has one entry per channel. -/
inductive Chan where
  | r
  | g
  | b
  deriving DecidableEq, Repr

/-- A value with one entry per channel. -/
structure RGB (α : Type) where
  r : α
  g : α
  b : α
  deriving DecidableEq, Repr

/-- The entry of channel `c`. -/
def RGB.get {α : Type} (x : RGB α) : Chan → α
  | .r => x.r
  | .g => x.g
  | .b => x.b

/-- The triple with the entry of channel `c` replaced. -/
def RGB.put {α : Type} (x : RGB α) (c : Chan) (v : α) : RGB α :=
  match c with
  | .r => { x with r := v }
  | .g => { x with g := v }
  | .b => { x with b := v }

/-- One function applied on each channel. -/
def RGB.map {α β : Type} (f : α → β) (x : RGB α) : RGB β :=
  ⟨f x.r, f x.g, f x.b⟩

/-- One function of two triples, channel by channel. -/
def RGB.zip {α β γ : Type} (f : α → β → γ) (x : RGB α) (y : RGB β) : RGB γ :=
  ⟨f x.r y.r, f x.g y.g, f x.b y.b⟩

/-- The same value on each channel. -/
def RGB.all {α : Type} (v : α) : RGB α := ⟨v, v, v⟩

/-- Does `p` hold on every channel? -/
def RGB.every {α : Type} (p : α → Bool) (x : RGB α) : Bool := p x.r && p x.g && p x.b

/-- The three entries in R, G, B order. -/
def RGB.toList {α : Type} (x : RGB α) : List α := [x.r, x.g, x.b]

/-- The three channels in R, G, B order. -/
def Chan.order : List Chan := [.r, .g, .b]

/-- A table of exactly `n` records, numbered from 0. -/
structure Table (α : Type) (n : Nat) where
  cells : List α
  size : cells.length = n
  deriving DecidableEq, Repr

namespace Table

/-- The record numbered `i`. -/
def get {α : Type} {n : Nat} (t : Table α n) (i : Fin n) : α :=
  t.cells.get (i.cast t.size.symm)

/-- The table with the record numbered `i` replaced. -/
def put {α : Type} {n : Nat} (t : Table α n) (i : Fin n) (v : α) : Table α n :=
  ⟨t.cells.set i.val v, by simp [t.size]⟩

/-- The table with every record `v`. -/
def fill {α : Type} (n : Nat) (v : α) : Table α n :=
  ⟨List.replicate n v, by simp⟩

/-- `mapGo f xs k` applies `f` to the records of `xs`, the first of which is numbered `k`. -/
def mapGo {α β : Type} {n : Nat} (f : Fin n → α → β) : (xs : List α) → (k : Nat) → k + xs.length = n → List β
  | [], _, _ => []
  | x :: xs, k, h =>
    f ⟨k, by simp at h; omega⟩ x :: mapGo f xs (k + 1) (by simp at h; omega)

theorem length_mapGo {α β : Type} {n : Nat} (f : Fin n → α → β) (xs : List α) (k : Nat) (h : k + xs.length = n) :
    (mapGo f xs k h).length = xs.length := by
  induction xs generalizing k with
  | nil => rfl
  | cons x xs ih => simp [mapGo, ih]

/-- Every record replaced by a function of its number and itself. -/
def mapIdx {α β : Type} {n : Nat} (f : Fin n → α → β) (t : Table α n) : Table β n :=
  ⟨mapGo f t.cells 0 (by simp [t.size]), by rw [length_mapGo, t.size]⟩

/-- Every record replaced by a function of itself. -/
def map {α β : Type} {n : Nat} (f : α → β) (t : Table α n) : Table β n :=
  t.mapIdx fun _ x => f x

/-- The records with their numbers, in ascending order. -/
def entries {α : Type} {n : Nat} (t : Table α n) : List (Fin n × α) :=
  (t.mapIdx fun i x => (i, x)).cells

/-- How many records have the property. -/
def count {α : Type} {n : Nat} (t : Table α n) (p : α → Bool) : Nat :=
  (t.cells.filter p).length

end Table

/-- The numbers 0..n-1 in ascending order. -/
def numbers (n : Nat) : List (Fin n) := List.finRange n

/-- The slots in ascending order. -/
def slots : List Slot := numbers 64

end Sys2Proof
end

