-- ==== Sys2Proof/Syntax.lean ====
section
/-! DEFINITION. The commands of the DN6410: one constructor of `Instr` for each row of spec/opcode_table.json, with its
operands. -/

namespace Sys2Proof

/-- A programme port: one that can hold show authority (R177). -/
inductive Prog where
  | A
  | B
  deriving DecidableEq, Repr

/-- One of the three SPI target ports. -/
inductive Port where
  | prog (q : Prog)
  | service
  deriving DecidableEq, Repr

/-- What a hard reset is: power-up with RESETn high, or RESETn going low (R24, R191). -/
inductive ResetCause where
  | powerUp
  | resetnLow
  deriving DecidableEq, Repr

/-- How far a store write that the reset cut off had gone at one target (R30): the old content, good; the new content,
good; or a content that fails its check. -/
inductive CutOutcome where
  | old
  | new
  | failing
  deriving DecidableEq, Repr

/-- The two condition classes that have a mode, an action and a retry timer (R131). -/
inductive TimedClass where
  | hot
  | sensor
  deriving DecidableEq, Repr

/-- The status of a SENSE reply (R161). The count decides where the two disagree (R167). `other` stands for a status byte above 2,
which R206 codes for no status and does not list among what makes a reply no reply (DEDUCED, log entry 1). -/
inductive SenseStatus where
  | ok
  | under
  | over
  | other
  deriving DecidableEq, Repr

/-- The commands: transactions and posted requests from a port's master (a request carries its parameter block as the bytes
that arrived, R204), replies and window expiries on the tile chain, timer events, store completions and resets. -/
inductive Instr where
  /-- Power-up or RESETn low. `cut` says, for each target of a write in flight, how far the write had gone (R30): the
  first entry for a one-record write, entry 16 * row + col for CLEAR-MAP; an entry not listed is `old`. -/
  | hardReset (cause : ResetCause) (cut : List CutOutcome)
  | status (p : Port)
  /-- READ of a record kind with its two index bytes. -/
  | read (p : Port) (kind idx0 idx1 : Byte)
  | result (p : Port)
  | abort (p : Port)
  | discardedTransaction (p : Port)
  | claim (p : Port) (block : List Byte)
  | release (p : Port) (block : List Byte)
  | setShow (p : Port) (block : List Byte)
  | freeze (p : Port) (block : List Byte)
  | thaw (p : Port) (block : List Byte)
  | setBudget (p : Port) (block : List Byte)
  | putProfile (p : Port) (block : List Byte)
  | dropProfile (p : Port) (block : List Byte)
  | putMap (p : Port) (block : List Byte)
  | clearMap (p : Port) (block : List Byte)
  | setTrack (p : Port) (block : List Byte)
  | setSlew (p : Port) (block : List Byte)
  | setTemp (p : Port) (block : List Byte)
  | setProtect (p : Port) (block : List Byte)
  | clearFaults (p : Port) (block : List Byte)
  | sweep (p : Port) (block : List Byte)
  | relearn (p : Port) (block : List Byte)
  | restartChain (p : Port) (block : List Byte)
  | setNotice (p : Port) (block : List Byte)
  | roundStart
  | relearnEnumerationStart
  /-- The reply's temperature (`none` is NONE), sensor-fault flag, lit hours, load and echo of the coefficients in use. -/
  | pollReply (temp : Option Int) (fault : Bool) (hours load : Nat) (echo : RGB Nat)
  | pollMiss
  /-- The reply's echo of the coefficients in use. -/
  | pushReply (echo : RGB Nat)
  | pushMiss
  | adoptReply (serial : Serial)
  | adoptNoReply
  | enumReply (serial : Serial)
  | enumNoReply
  | patchReply
  | patchMiss
  | settleWaitEnd
  | senseReply (status : SenseStatus) (count : Nat)
  | senseMiss
  | storeWriteComplete
  | livenessTimerExpiry (q : Prog)
  | retryTimerExpiry (slot : Slot) (cls : TimedClass)
  | resetnRelease
  /-- A POST whose request code names no request. -/
  | unknownRequestPost (p : Port) (code : Byte) (block : List Byte)
  deriving DecidableEq, Repr

end Sys2Proof
end

