-- ==== Sys2Proof/Decode.lean ====
section
/-! DEFINITION. Commands from words. The opcode table gives none of its rows any bits: the commands of this part are transactions,
replies, expiries and completions, and `Sys2Proof.Machine.spiCommand` and `replyCommand` read them from the bytes of the two
buses. -/

namespace Sys2Proof

/-- The command a word spells by the table's bits: no row has any. -/
def decodeTableWord (_ _ : Nat) : Option Instr := none

end Sys2Proof
end

