-- ==== Sys2Proof/Machine/Arith.lean ====
section
/-! DEFINITION. The part's arithmetic: the two divisions of R1 and the clamps of the settings. -/

namespace Sys2Proof.Machine

/-- Divide rounding down (R1): the floor of the exact quotient, for a positive divisor. -/
def divDown (n : Int) (d : Nat) : Int := n.fdiv d

/-- Divide rounding to nearest (R1): a quotient exactly halfway between two integers rounds away from zero, for a positive
divisor. -/
def divNear (n : Int) (d : Nat) : Int :=
  if 0 ≤ n then ((2 * n.toNat + d) / (2 * d) : Nat) else -((2 * (-n).toNat + d) / (2 * d) : Nat)

/-- A number held within a range. -/
def clampNat (lo hi x : Nat) : Nat := if x < lo then lo else if hi < x then hi else x

/-- A signed number held within a range. -/
def clampInt (lo hi x : Int) : Int := if x < lo then lo else if hi < x then hi else x

/-- A temperature setting held within -40..125 (R32, R184). -/
def clampTemp (x : Int) : Int := clampInt (-40) 125 x

/-- A count that passes from 65535 back to 0 (R80, R147, R177). -/
def nextCount (n : Nat) : Nat := (n + 1) % 65536

end Sys2Proof.Machine
end

