-- ==== Sys2Proof/Machine/State.lean ====
section
/-! DEFINITION. Every piece of state the spec gives the part, block by block, as plain data, and the state after reset. -/

namespace Sys2Proof.Machine

/-! ## Chain controller -/

/-- Slot states (section 1.5). -/
inductive SlotState where
  | vacant
  | joining
  | active
  | unprofiled
  | lost
  deriving DecidableEq, Repr

/-- The state a LOST slot had when it became LOST (section 1.2). -/
inductive FormerState where
  | joining
  | active
  | unprofiled
  deriving DecidableEq, Repr

/-- Why binding failed (section 1.2, R42). -/
inductive UnprofReason where
  | noProfile
  | noRef
  | badLink
  | dupSerial
  deriving DecidableEq, Repr

/-- The slot record of section 1.2. A field that is not present in the slot's state holds its reset value and is read as
absent (R19). -/
structure SlotRec where
  state : SlotState := .vacant
  serial : Option Serial := none
  missCount : Nat := 0
  /-- 1..96, or 0 for none. -/
  bound : Nat := 0
  reason : Option UnprofReason := none
  polled : Bool := false
  former : Option FormerState := none
  answering : Bool := false
  pending : Option (RGB Nat) := none
  confirmed : Option (RGB Nat) := none
  deriving DecidableEq, Repr

/-- Why a sweep measurement failed (R130). -/
inductive ProbeReason where
  | under
  | over
  | unstable
  | noReply
  | noProfile
  deriving DecidableEq, Repr

/-- What a PATCH OFF in flight ends: a channel with its reading, a channel that failed, or a probe step that is being wound
down, whose measurement is discarded (R166, R172, R173). -/
inductive ProbeEnd where
  | accepted
  | failed (r : ProbeReason)
  | discarded
  deriving DecidableEq, Repr

/-- What the chain controller is doing: between rounds, or waiting for the reply or window expiry of the one frame in flight
(R8), or in the settle wait of a probe step (R166). POLL, ADOPT, PATCH, SENSE and the settle wait are the poll phase, PUSH is
the push phase, ENUM is an enumeration. -/
inductive Activity where
  | idle
  | enum (n : Nat)
  | poll (i : Slot)
  | adopt (i : Slot)
  | patch (i : Slot) (c : Chan)
  | settle (i : Slot) (c : Chan)
  | sense (i : Slot) (c : Chan) (range : Nat)
  | patchOff (i : Slot) (c : Chan) (range : Nat) (e : ProbeEnd)
  | push (i : Slot) (coefs : RGB Nat)
  deriving DecidableEq, Repr

/-- What the chain controller holds beside the 64 slot records (section 1.2, R24). -/
structure ChainCtl where
  roundInterval : Nat := 40
  missLimit : Nat := 3
  /-- Milliseconds since the last round's start, counted up to 1000; `none` is the stopped timer of R24. -/
  roundTimer : Option Nat := none
  /-- The next round starts at once (R21, R22): a RELEARN that has sent ENUM 0 has ended and no round has started since. -/
  startNow : Bool := false
  adoptCursor : Slot := 0
  chainLong : Bool := false
  tileCount : Nat := 0
  activity : Activity := .idle
  /-- The probe step under way belongs to a sweep that has ended and is being wound down (R173, R174). -/
  windDown : Bool := false
  deriving DecidableEq, Repr

/-! ## Profiles and the resolver -/

/-- Temperature sources (section 2.3). -/
inductive Source where
  | own
  | north
  | east
  | south
  | west
  | ambient
  | fixed
  deriving DecidableEq, Repr

/-- Tracking modes (section 2.3). -/
inductive TrackMode where
  | fixed
  | model
  | sensed
  deriving DecidableEq, Repr

/-- The kinds of profile record. -/
inductive ProfileKind where
  | tile
  | base
  deriving DecidableEq, Repr

/-- The luminance group. -/
structure Luminance where
  lref : RGB Nat
  tref : Int
  deriving DecidableEq, Repr

/-- The temperature-source group. -/
structure TempSource where
  primary : Source
  fallback : Source
  fixed : Int
  deriving DecidableEq, Repr

/-- A sense set. -/
structure SenseSet where
  lsense : RGB Nat
  tsense : Int
  hsense : Nat
  deriving DecidableEq, Repr

/-- A profile record (section 2.3): each group present or absent as a whole. -/
structure Profile where
  kind : ProfileKind
  serial : Option Serial := none
  link : Option Nat := none
  luminance : Option Luminance := none
  thermal : Option (RGB Nat) := none
  ageing : Option (RGB Nat) := none
  href : Option Nat := none
  power : Option Nat := none
  tempSource : Option TempSource := none
  mode : Option TrackMode := none
  sense : Option SenseSet := none
  deriving DecidableEq, Repr

/-- A working or partial profile (R39, R41): the chain, the resolved groups and, for each inherited group, its origin
(`none` is DEFAULT; the origin of an absent luminance group is `none` too). -/
structure Working where
  chain : List Nat := []
  luminance : Option Luminance := none
  thermal : RGB Nat := RGB.all 0
  ageing : RGB Nat := RGB.all 0
  href : Nat := 0
  power : Nat := 0
  tempSource : TempSource := ⟨.own, .ambient, 25⟩
  mode : TrackMode := .model
  sense : Option SenseSet := none
  luminanceFrom : Option Nat := none
  thermalFrom : Option Nat := none
  ageingFrom : Option Nat := none
  powerFrom : Option Nat := none
  tempSourceFrom : Option Nat := none
  modeFrom : Option Nat := none
  deriving DecidableEq, Repr

/-- What the resolver holds for a slot (R41, R43). -/
inductive Held where
  | none
  | full (w : Working)
  | part (w : Working)
  deriving DecidableEq, Repr

/-! ## Temperature unit -/

/-- The last own reading of R63: absent before the first POLL reply, NONE, or the value as reported. -/
inductive OwnReading where
  | absent
  | none
  | value (t : Int)
  deriving DecidableEq, Repr

/-- The source in use of R63: absent, NONE, or a source. -/
inductive SourceInUse where
  | absent
  | none
  | source (x : Source)
  deriving DecidableEq, Repr

/-- Whether the source in use is the profile's primary or its fallback (R63). -/
inductive Role where
  | primary
  | fallback
  deriving DecidableEq, Repr

/-- The temperature record of R63. -/
structure TempRec where
  own : OwnReading := .absent
  fault : Option Bool := none
  ownValid : Bool := false
  source : SourceInUse := .absent
  role : Option Role := none
  lending : Option Slot := none
  lastSample : Option Int := none
  sum : Int := 0
  count : Nat := 0
  teff : Option Int := none
  deriving DecidableEq, Repr

/-- The temperature settings of R76. -/
structure TempSettings where
  w : Nat := 3
  hotLimit : Int := 70
  tripLimit : Int := 85
  hysteresis : Int := 5
  deriving DecidableEq, Repr

/-! ## Uniformity engine -/

/-- The reference set a tile was computed from (R84). -/
inductive RefSet where
  | model
  | sensed
  deriving DecidableEq, Repr

/-- How the latest coefficients were formed (R83). -/
inductive FormedBy where
  | recompute
  | reform
  deriving DecidableEq, Repr

/-- The engine's tile record of R83, with the lit hours and load of R75 and the power term of R159. -/
structure EngineRec where
  refSet : Option RefSet := none
  senseAbsent : Option Bool := none
  delta : Option Int := none
  fth : Option (RGB Nat) := none
  hs : Option Nat := none
  fag : Option (RGB Nat) := none
  e : Option (RGB Nat) := none
  contributing : Bool := false
  failing : Option (List Chan) := none
  gt : Option (RGB Nat) := none
  computedAt : Option Nat := none
  gainsUsed : Option (RGB Nat) := none
  mUsed : Option Nat := none
  pUsed : Option Nat := none
  sbUsed : Option Nat := none
  formedBy : Option FormedBy := none
  hours : Option Nat := none
  load : Option Nat := none
  powerTerm : Option Nat := none
  deriving DecidableEq, Repr

/-- The engine fields of the wall record (R102, R104). -/
structure WallRec where
  number : Nat := 0
  wantInUse : RGB Nat := ⟨2126, 7152, 722⟩
  floorRatioInUse : Nat := 2048
  floors : Option (RGB Nat) := none
  contributing : Nat := 0
  short : Nat := 0
  minE : Option (RGB Nat) := none
  scales : Option (RGB Nat) := none
  s : Nat := 4096
  /-- `none` is NONE. -/
  limiting : Option Chan := none
  limitingSlots : Option (RGB Slot) := none
  target : RGB Nat := ⟨2126, 7152, 722⟩
  deriving DecidableEq, Repr

/-! ## Slew stage -/

/-- What the latest recomputation did to a channel's applied gain (R113). -/
inductive SlewStatus where
  | first
  | up
  | down
  | settled
  | held
  | manual
  | uncorrected
  deriving DecidableEq, Repr

/-- The slew record of R105. -/
structure SlewRec where
  ga : Option (RGB Nat) := none
  override : Option TrackMode := none
  manual : RGB Nat := RGB.all 4096
  firstSet : Bool := false
  status : Option (RGB SlewStatus) := none
  deriving DecidableEq, Repr

/-- The slew settings of R120. -/
structure SlewSettings where
  stepUp : Nat := 4
  stepDown : Nat := 4
  tolerance : Nat := 8
  deriving DecidableEq, Repr

/-! ## Protection unit -/

/-- A condition and its two flags (R123, R124). -/
structure Cond where
  cond : Bool := false
  active : Bool := false
  latched : Bool := false
  deriving DecidableEq, Repr

/-- The kinds of action in force (R123). -/
inductive Action where
  | none
  | hold
  | dim
  | blank
  deriving DecidableEq, Repr

/-- The action of HOT or SENSOR on a slot (R123): the kind in force, the dim level in force while it is DIM, and the retry
timer's remaining milliseconds, `none` when STOPPED. -/
structure Act where
  kind : Action := .none
  dim : Option Nat := none
  timer : Option Nat := none
  deriving DecidableEq, Repr

/-- The protection record of R123. -/
structure ProtRec where
  hot : Cond := {}
  overheat : Cond := {}
  sensor : Cond := {}
  lost : Cond := {}
  short : Cond := {}
  probe : Cond := {}
  hotAct : Act := {}
  sensorAct : Act := {}
  /-- OVERHEAT's action in force is BLANK. -/
  overheatBlank : Bool := false
  probeReason : Option ProbeReason := none
  probeChan : Option Chan := none
  p : Nat := 4096
  deriving DecidableEq, Repr

/-- The modes of HOT and SENSOR (R131). -/
inductive ProtMode where
  | latched
  | retry
  | report
  | off
  deriving DecidableEq, Repr

/-- The action kinds that can be set (R136). -/
inductive ActionKind where
  | hold
  | dim
  | blank
  deriving DecidableEq, Repr

/-- The settings of HOT or SENSOR (R136). The retry time is in seconds. -/
structure ClassSettings where
  mode : ProtMode
  action : ActionKind
  dim : Nat
  retry : Nat
  deriving DecidableEq, Repr

/-- The LOST policy (R128). -/
inductive LostPolicy where
  | auto
  | onClear
  deriving DecidableEq, Repr

/-- The protection settings of R136. The SHORT mode is REPORT or OFF. -/
structure ProtSettings where
  hot : ClassSettings := ⟨.retry, .dim, 2048, 10⟩
  sensor : ClassSettings := ⟨.report, .hold, 2048, 10⟩
  shortReport : Bool := true
  lostPolicy : LostPolicy := .auto
  deriving DecidableEq, Repr

/-- Everything the part holds for one chain slot: the slot record, the working or partial profile, and the per-tile records
of the temperature unit, the engine, the slew stage and the protection unit. -/
structure Tile where
  chain : SlotRec := {}
  held : Held := .none
  temp : TempRec := {}
  eng : EngineRec := {}
  slew : SlewRec := {}
  prot : ProtRec := {}
  deriving DecidableEq, Repr

/-! ## Budget unit -/

/-- Recovery modes (R147). -/
inductive BudgetMode where
  | next
  | below
  | count
  | report
  deriving DecidableEq, Repr

/-- The budget state (R147). -/
inductive BudgetState where
  | off
  | clear
  | tripped
  deriving DecidableEq, Repr

/-- The budget settings (R148). -/
structure BudgetSettings where
  budget : Nat := 0
  mode : BudgetMode := .next
  hysteresis : Nat := 10
  count : Nat := 25
  deriving DecidableEq, Repr

/-- The budget unit's state (R147, R160). -/
structure Budget where
  set : BudgetSettings := {}
  state : BudgetState := .off
  sb : Nat := 4096
  estimate : Nat := 0
  candidate : Nat := 4096
  hold : Nat := 0
  active : Bool := false
  latched : Bool := false
  trips : Nat := 0
  deriving DecidableEq, Repr

/-! ## Sweep sequencer -/

/-- The sweep state (R163). -/
inductive SweepState where
  | none
  | running
  | waiting
  deriving DecidableEq, Repr

/-- The parameters of a sweep (R162). -/
structure SweepParams where
  first : Slot
  last : Slot
  chans : RGB Bool
  deriving DecidableEq, Repr

/-- The sweep record of R163. Channel, range and phase are those of the chain controller's activity. `id` is the model's own
count of accepted sweeps, by which a sense write names the sweep it was handed for (R28, R170). -/
structure SweepRec where
  state : SweepState := .none
  issuer : Option Port := none
  params : Option SweepParams := none
  cursor : Option Nat := none
  tile : Option Slot := none
  tsense : Option Int := none
  hsense : Option Nat := none
  readings : RGB (Option Nat) := RGB.all none
  measured : Nat := 0
  failed : Nat := 0
  skipped : Nat := 0
  passed : Nat := 0
  outstanding : Nat := 0
  lastReached : Option Slot := none
  id : Nat := 0
  deriving DecidableEq, Repr

/-! ## Store and layout map -/

/-- A grid position (section 3.1). -/
structure Pos where
  col : Fin 16
  row : Fin 16
  deriving DecidableEq, Repr

/-- A profile index of the store: empty, a good record, or a content that fails its check (R30). -/
inductive ProfileCell where
  | empty
  | good (r : Profile)
  | failing
  deriving DecidableEq, Repr

/-- A map entry: EMPTY, a slot, or a content that fails its check (R30, R50). -/
inductive MapCell where
  | empty
  | slot (i : Slot)
  | failing
  deriving DecidableEq, Repr

/-- A sense write (R28): the index, the serial, the sense set, and the slot and sweep it was handed for. -/
structure SenseWrite where
  index : Nat
  serial : Serial
  sense : SenseSet
  slot : Slot
  sweepId : Nat
  deriving DecidableEq, Repr

/-- A store write with its new content (R25, R26). -/
inductive WriteOp where
  | putProfile (index : Nat) (r : Profile)
  | dropProfile (index : Nat)
  | senseWrite (w : SenseWrite)
  | putMap (pos : Pos) (content : Option Slot)
  | clearMap
  deriving DecidableEq, Repr

/-- The write in flight and its issuer; `none` is SWEEP (R25). -/
structure StoreWrite where
  op : WriteOp
  issuer : Option Port
  deriving DecidableEq, Repr

/-- The store: the non-volatile profile and layout areas and the volatile state of R25. The store state is WRITING exactly
while a write is in flight. Records held, TILE records and BASE records are counted from the area when they are read. -/
structure Store where
  profiles : Table ProfileCell 96 := Table.fill 96 .empty
  map : Table MapCell 256 := Table.fill 256 .empty
  write : Option StoreWrite := none
  queue : List SenseWrite := []
  profileLosses : Nat := 0
  mapLosses : Nat := 0
  lost : List Nat := []
  deriving DecidableEq, Repr

/-! ## Authority unit -/

/-- A liveness timer (R177). -/
inductive LTimer where
  | stopped
  | running (ms : Nat)
  | expired
  deriving DecidableEq, Repr

/-- The cause of the latest change of authority state (R177). -/
inductive LastChange where
  | claim
  | release
  | lapse
  | handover
  | reset
  deriving DecidableEq, Repr

/-- The authority unit of R177, less the show record. The authority state is VACANT, HELD-A or HELD-B as `holder` says;
frozen is yes exactly while a show key is held. -/
structure Authority where
  holder : Option Prog := none
  standby : Option Prog := none
  timerA : LTimer := .stopped
  timerB : LTimer := .stopped
  key : Option Key := none
  lastChange : LastChange := .reset
  changes : Nat := 0
  deriving DecidableEq, Repr

/-- The show record (R184). -/
structure ShowRec where
  m : Nat := 0
  want : RGB Nat := ⟨2126, 7152, 722⟩
  floorRatio : Nat := 2048
  ambient : Option Int := none
  timeout : Nat := 20
  deriving DecidableEq, Repr

/-! ## Request unit -/

/-- The requests (R203), and a request code that names none. -/
inductive ReqName where
  | claim
  | release
  | setShow
  | freeze
  | thaw
  | setBudget
  | putProfile
  | dropProfile
  | putMap
  | clearMap
  | setTrack
  | setSlew
  | setTemp
  | setProtect
  | clearFaults
  | sweep
  | relearn
  | restartChain
  | setNotice
  | unnamed (code : Byte)
  deriving DecidableEq, Repr

/-- The outcomes of a completed request (R194). -/
inductive Verdict where
  | done
  | aborted
  | refused
  deriving DecidableEq, Repr

/-- The reasons of an ABORTED or REFUSED outcome (R194, R203). -/
inductive Reason where
  | byPort
  | preempted
  | live
  | restart
  | noAuth
  | frozen
  | badKey
  | range
  | notFound
  | full
  | inUse
  | badLink
  | dupSerial
  | storeBusy
  | modal
  | held
  deriving DecidableEq, Repr

/-- A set of notice classes (R200). -/
structure Notices where
  start : Bool := false
  job : Bool := false
  cond : Bool := false
  tile : Bool := false
  auth : Bool := false
  store : Bool := false
  deriving DecidableEq, Repr

/-- The kinds of modal job (R199). -/
inductive JobKind where
  | sweep
  | relearn
  deriving DecidableEq, Repr

/-- The result data of each request, as its owner chapter gives them. -/
inductive ResultData where
  | nothing
  | claim (holder : Option Prog) (frozen : Bool)
  | release (holder : Option Prog)
  | shown (r : ShowRec)
  | frozen (yes : Bool)
  | budget (set : BudgetSettings) (state : BudgetState) (sb estimate : Nat)
  | putProfile (index : Nat) (slot : Option Slot)
  | dropProfile (index : Nat) (slot : Option Slot)
  | putMap (pos : Pos) (before after : Option Slot)
  | clearMap (entries : Nat)
  | track (slot : Slot) (override : Option TrackMode) (manual : RGB Nat) (mode : Option TrackMode) (ga : Option (RGB Nat))
  | slew (x : SlewSettings)
  | temp (x : TempSettings)
  | protect (x : ProtSettings) (missLimit roundInterval : Nat)
  | cleared (covered returned latched released stillActive : Nat)
  | sweep (measured failed skipped passed : Nat) (last : Option Slot) (outstanding : Nat)
  | relearn (tiles : Nat)
  | restart (job : Option JobKind) (slots : Nat)
  | notice (mask : Notices)
  deriving DecidableEq, Repr

/-- The last completed request on a port (R192). -/
structure ResultBlock where
  request : ReqName
  verdict : Verdict
  reason : Option Reason
  data : ResultData
  deriving DecidableEq, Repr

/-- The port record of R192. The slot state is BUSY exactly while a request is in progress. `response` is the model's own
field: the bytes the port returned to its latest STATUS, READ or RESULT. -/
structure PortRec where
  busy : Option ReqName := none
  abortRequested : Bool := false
  result : Option ResultBlock := none
  overrun : Bool := false
  pending : Notices := {}
  mask : Notices := ⟨true, true, true, true, true, true⟩
  response : List Byte := []
  deriving DecidableEq, Repr

/-- The three port records. -/
structure Ports where
  a : PortRec := {}
  b : PortRec := {}
  s : PortRec := {}
  deriving DecidableEq, Repr

/-- The modal-job token (R199): free, or held by a SWEEP with its issuing port, or by a RELEARN with its issuing port or
with no port. -/
inductive Token where
  | free
  | sweep (p : Port)
  | relearn (p : Option Port)
  deriving DecidableEq, Repr

/-! ## The whole part -/

/-- The state of the part, and the commands that wait. -/
structure State where
  /-- RESETn is low (R191). -/
  inReset : Bool := false
  ports : Ports := {}
  token : Token := .free
  auth : Authority := {}
  showRec : ShowRec := {}
  chain : ChainCtl := {}
  tiles : Table Tile 64 := Table.fill 64 {}
  store : Store := {}
  /-- The inverse of the layout map (R51); `none` is UNMAPPED. -/
  inverse : Table (Option Pos) 64 := Table.fill 64 none
  tempSet : TempSettings := {}
  wall : WallRec := {}
  slewSet : SlewSettings := {}
  protSet : ProtSettings := {}
  budget : Budget := {}
  sweep : SweepRec := {}
  /-- The commands that wait, first in, first out. -/
  pending : List Instr := []
  deriving DecidableEq, Repr

/-- No event of this part stops it with a fault: there is no constructor, and no meaning answers with one. -/
inductive Fault where
  deriving DecidableEq, Repr

/-- Why a command has no meaning. -/
inductive Refusal where
  /-- Raised only by an arm of `exec` whose command has no meaning yet; safe. No arm raises it. -/
  | notModelled (mnemonic : String)
  deriving DecidableEq, Repr

/-- The port record after a hard reset whose verification found no loss (R192). -/
def PortRec.reset : PortRec := { pending := { start := true } }

/-- The part after power-up with an erased store (R24, R31, R49, R50, R79, R104, R122, R146, R160, R163, R190, R192): every block
in its hard-reset state and the startup RELEARN begun, with its ENUM 0 in flight. -/
def State.reset : State :=
  { ports := ⟨PortRec.reset, PortRec.reset, PortRec.reset⟩
    token := .relearn none
    chain := { activity := .enum 0 } }

end Sys2Proof.Machine
end

