-- ==== Sys2Proof/Machine/Ops.lean ====
section
/-! DEFINITION. The named reads and updates of the state, the request completion every block shares (R193), and the liveness
timers' restart (R178). -/

namespace Sys2Proof.Machine

/-- The state with RESETn's level replaced. -/
def State.setInReset (s : State) (x : Bool) : State := { s with inReset := x }

/-- The state with the port records replaced. -/
def State.setPorts (s : State) (x : Ports) : State := { s with ports := x }

/-- The state with the modal-job token replaced. -/
def State.setToken (s : State) (x : Token) : State := { s with token := x }

/-- The state with the authority unit replaced. -/
def State.setAuth (s : State) (x : Authority) : State := { s with auth := x }

/-- The state with the show record replaced. -/
def State.setShowRec (s : State) (x : ShowRec) : State := { s with showRec := x }

/-- The state with the chain controller replaced. -/
def State.setChain (s : State) (x : ChainCtl) : State := { s with chain := x }

/-- The state with the 64 tiles' records replaced. -/
def State.setTiles (s : State) (x : Table Tile 64) : State := { s with tiles := x }

/-- The state with the store replaced. -/
def State.setStore (s : State) (x : Store) : State := { s with store := x }

/-- The state with the inverse of the map replaced. -/
def State.setInverse (s : State) (x : Table (Option Pos) 64) : State := { s with inverse := x }

/-- The state with the temperature settings replaced. -/
def State.setTempSet (s : State) (x : TempSettings) : State := { s with tempSet := x }

/-- The state with the engine's wall record replaced. -/
def State.setWall (s : State) (x : WallRec) : State := { s with wall := x }

/-- The state with the slew settings replaced. -/
def State.setSlewSet (s : State) (x : SlewSettings) : State := { s with slewSet := x }

/-- The state with the protection settings replaced. -/
def State.setProtSet (s : State) (x : ProtSettings) : State := { s with protSet := x }

/-- The state with the budget unit replaced. -/
def State.setBudget (s : State) (x : Budget) : State := { s with budget := x }

/-- The state with the sweep record replaced. -/
def State.setSweep (s : State) (x : SweepRec) : State := { s with sweep := x }

/-- The state with the queue of commands replaced. -/
def State.setPending (s : State) (x : List Instr) : State := { s with pending := x }

/-! ## Ports -/

/-- The record of port `p`. -/
def Ports.get (r : Ports) : Port → PortRec
  | .prog .A => r.a
  | .prog .B => r.b
  | .service => r.s

/-- The port records with that of port `p` replaced. -/
def Ports.put (r : Ports) (p : Port) (x : PortRec) : Ports :=
  match p with
  | .prog .A => { r with a := x }
  | .prog .B => { r with b := x }
  | .service => { r with s := x }

/-- The record of port `p`. -/
def State.port (s : State) (p : Port) : PortRec := s.ports.get p

/-- The record of port `p` replaced. -/
def State.putPort (s : State) (p : Port) (x : PortRec) : State := s.setPorts (s.ports.put p x)

/-- The union of two sets of notice classes. -/
def Notices.union (x y : Notices) : Notices :=
  ⟨x.start || y.start, x.job || y.job, x.cond || y.cond, x.tile || y.tile, x.auth || y.auth, x.store || y.store⟩

/-- Do two sets of notice classes have a class in common? -/
def Notices.meets (x y : Notices) : Bool :=
  (x.start && y.start) || (x.job && y.job) || (x.cond && y.cond) || (x.tile && y.tile) || (x.auth && y.auth)
    || (x.store && y.store)

/-- Classes added to a port's pending set (R200). -/
def PortRec.notice (r : PortRec) (n : Notices) : PortRec := { r with pending := r.pending.union n }

/-- Classes added to the pending sets of all three ports (R200). -/
def State.noticeAll (s : State) (n : Notices) : State :=
  s.setPorts ⟨s.ports.a.notice n, s.ports.b.notice n, s.ports.s.notice n⟩

/-- The four things a completion does at its port (R193). -/
def PortRec.complete (r : PortRec) (name : ReqName) (v : Verdict) (why : Option Reason) (d : ResultData) : PortRec :=
  { r with
    result := some ⟨name, v, why, d⟩
    busy := none
    abortRequested := false
    pending := r.pending.union { job := true } }

/-- The request `name` of port `p` completes (R193). -/
def complete (p : Port) (name : ReqName) (v : Verdict) (why : Option Reason) (d : ResultData) (s : State) : State :=
  s.putPort p ((s.port p).complete name v why d)

/-- The request completes DONE. -/
def finish (p : Port) (name : ReqName) (d : ResultData) (s : State) : State := complete p name .done none d s

/-- The request is REFUSED (R194). -/
def refuse (p : Port) (name : ReqName) (why : Reason) (s : State) : State := complete p name .refused (some why) .nothing s

/-- The request is accepted and holds the port's slot BUSY (R193). -/
def hold (p : Port) (name : ReqName) (s : State) : State :=
  s.putPort p { s.port p with busy := some name }

/-- The attention output of port `p` is driven low (R201): its pending set and its mask have a class in common, and RESETn is
not low. -/
def State.attentionLow (s : State) (p : Port) : Bool :=
  !s.inReset && (s.port p).pending.meets (s.port p).mask

/-! ## Tiles -/

/-- Everything held for slot `i`. -/
def State.tile (s : State) (i : Slot) : Tile := s.tiles.get i

/-- Everything held for slot `i` replaced. -/
def State.putTile (s : State) (i : Slot) (t : Tile) : State := s.setTiles (s.tiles.put i t)

/-- A tile with its slot record replaced. -/
def Tile.setChain (t : Tile) (x : SlotRec) : Tile := { t with chain := x }

/-- A tile with its temperature record replaced. -/
def Tile.setTemp (t : Tile) (x : TempRec) : Tile := { t with temp := x }

/-- A tile with its engine record replaced. -/
def Tile.setEng (t : Tile) (x : EngineRec) : Tile := { t with eng := x }

/-- A tile with its slew record replaced. -/
def Tile.setSlew (t : Tile) (x : SlewRec) : Tile := { t with slew := x }

/-- A tile with its protection record replaced. -/
def Tile.setProt (t : Tile) (x : ProtRec) : Tile := { t with prot := x }

/-- A tile with the resolver's profile replaced. -/
def Tile.setHeld (t : Tile) (x : Held) : Tile := { t with held := x }

/-- The slot is not VACANT. -/
def Tile.present (t : Tile) : Bool := t.chain.state != .vacant

/-- The chain controller's activity replaced. -/
def State.setActivity (s : State) (a : Activity) : State := s.setChain { s.chain with activity := a }

/-! ## Authority -/

/-- Frozen is yes exactly while a show key is held (R177). -/
def State.frozen (s : State) : Bool := s.auth.key.isSome

/-- Port `p` holds show authority (R177). -/
def State.isHolder (s : State) (p : Port) : Bool :=
  match p with
  | .prog q => s.auth.holder == some q
  | .service => false

/-- The other programme port. -/
def otherProg : Prog → Prog
  | .A => .B
  | .B => .A

/-- The liveness timer of programme port `q`. -/
def Authority.timer (a : Authority) : Prog → LTimer
  | .A => a.timerA
  | .B => a.timerB

/-- The liveness timer of programme port `q` replaced. -/
def Authority.setTimer (a : Authority) (q : Prog) (x : LTimer) : Authority :=
  match q with
  | .A => { a with timerA := x }
  | .B => { a with timerB := x }

/-- The full liveness timeout in milliseconds: it is counted in 50 ms units (R178). -/
def ShowRec.timeoutMs (r : ShowRec) : Nat := r.timeout * 50

/-- A liveness timer restarted with the timeout held (R178). -/
def State.restartTimer (s : State) (q : Prog) : State :=
  s.setAuth (s.auth.setTimer q (.running s.showRec.timeoutMs))

/-- A transaction taken on port `p` restarts a programme port's liveness timer (R178). -/
def touch (p : Port) (s : State) : State :=
  match p with
  | .prog q => s.restartTimer q
  | .service => s

/-- Authority passes from `q`, which holds it, to the standby, or leaves the authority state VACANT with last change `why`
(R179, R182). -/
def passAuthority (why : LastChange) (s : State) : State :=
  match s.auth.standby with
  | some n =>
    let s := s.setAuth { s.auth with
      holder := some n, standby := none, lastChange := .handover, changes := nextCount s.auth.changes }
    let s := s.restartTimer n
    let s := finish (.prog n) .claim (.claim (some n) s.frozen) s
    s.noticeAll { auth := true }
  | none =>
    let s := s.setAuth { s.auth with
      holder := none, lastChange := why, changes := nextCount s.auth.changes }
    s.noticeAll { auth := true }

end Sys2Proof.Machine
end

