-- ==== Sys2Proof/Machine/Operands.lean ====
section
/-! DEFINITION. The parameter blocks of the requests (R203, R204, R205): each reader takes the bytes of a block and answers
the parameters, or `none` where stage 4 of R194 refuses the block RANGE. -/

namespace Sys2Proof.Machine

/-! ## Bytes and fields -/

/-- The byte at offset `k`, as a number. -/
def byteAt (b : List Byte) (k : Nat) : Nat := (b.getD k 0).toNat

/-- The two-byte number at offset `k`, most significant byte first (R203). -/
def u16At (b : List Byte) (k : Nat) : Nat := byteAt b k * 256 + byteAt b (k + 1)

/-- The three-byte number at offset `k`. -/
def u24At (b : List Byte) (k : Nat) : Nat := byteAt b k * 65536 + u16At b (k + 1)

/-- The four-byte number at offset `k`. -/
def u32At (b : List Byte) (k : Nat) : Nat := u16At b k * 65536 + u16At b (k + 2)

/-- The six-byte number at offset `k`. -/
def u48At (b : List Byte) (k : Nat) : Nat := u16At b k * 4294967296 + u32At b (k + 2)

/-- The signed byte at offset `k`: two's complement (R203). -/
def s8At (b : List Byte) (k : Nat) : Int :=
  if byteAt b k < 128 then byteAt b k else (byteAt b k : Int) - 256

/-- The signed two-byte number at offset `k`. -/
def s16At (b : List Byte) (k : Nat) : Int :=
  if u16At b k < 32768 then u16At b k else (u16At b k : Int) - 65536

/-- Three two-byte numbers in R, G, B order. -/
def rgb16At (b : List Byte) (k : Nat) : RGB Nat := ⟨u16At b k, u16At b (k + 2), u16At b (k + 4)⟩

/-- Bit `n` of a map that begins at offset `k`, bit 0 of the first byte first (R203). -/
def bitAt (b : List Byte) (k n : Nat) : Bool := (byteAt b (k + n / 8)).testBit (n % 8)

/-- A setting: its value where its bit is set, marked unchanged otherwise (R204). -/
def given {α : Type} (bit : Bool) (v : α) : Option α := if bit then some v else none

/-- The slot numbered `n`, where there is one. -/
def slotOf (n : Nat) : Option Slot := if h : n < 64 then some ⟨n, h⟩ else none

/-- The grid position at `col` and `row`, where there is one. -/
def posOf (col row : Nat) : Option Pos :=
  if h : col < 16 ∧ row < 16 then some ⟨⟨col, h.1⟩, ⟨row, h.2⟩⟩ else none

/-! ## Choice codes (R203) -/

/-- Temperature sources: 0 OWN .. 6 FIXED. -/
def sourceOf : Nat → Option Source
  | 0 => some .own
  | 1 => some .north
  | 2 => some .east
  | 3 => some .south
  | 4 => some .west
  | 5 => some .ambient
  | 6 => some .fixed
  | _ => none

/-- Tracking modes: 0 FIXED, 1 MODEL, 2 SENSED. -/
def trackModeOf : Nat → Option TrackMode
  | 0 => some .fixed
  | 1 => some .model
  | 2 => some .sensed
  | _ => none

/-- HOT and SENSOR modes: 0 LATCHED, 1 RETRY, 2 REPORT, 3 OFF. -/
def protModeOf : Nat → Option ProtMode
  | 0 => some .latched
  | 1 => some .retry
  | 2 => some .report
  | 3 => some .off
  | _ => none

/-- SHORT modes: 2 REPORT, 3 OFF; the codes of LATCHED and RETRY are refused (R136). The answer is whether it is REPORT. -/
def shortModeOf : Nat → Option Bool
  | 2 => some true
  | 3 => some false
  | _ => none

/-- Action kinds in the order of R136: HOLD, DIM, BLANK. -/
def actionKindOf : Nat → Option ActionKind
  | 0 => some .hold
  | 1 => some .dim
  | 2 => some .blank
  | _ => none

/-- LOST policies in the order of R136: AUTO, ON-CLEAR. -/
def lostPolicyOf : Nat → Option LostPolicy
  | 0 => some .auto
  | 1 => some .onClear
  | _ => none

/-- Budget modes in the order of R147: NEXT, BELOW, COUNT, REPORT. -/
def budgetModeOf : Nat → Option BudgetMode
  | 0 => some .next
  | 1 => some .below
  | 2 => some .count
  | 3 => some .report
  | _ => none

/-- Profile kinds: 0 TILE, 1 BASE (R205). -/
def profileKindOf : Nat → Option ProfileKind
  | 0 => some .tile
  | 1 => some .base
  | _ => none

/-- A set of notice classes: bits 0..5; a set bit above them is RANGE (R203, R204). -/
def noticesOf (n : Nat) : Option Notices :=
  if 64 ≤ n then none
  else some ⟨n.testBit 0, n.testBit 1, n.testBit 2, n.testBit 3, n.testBit 4, n.testBit 5⟩

/-- A yes/no field: 1 yes, 0 no (R203). -/
def yesNoOf : Nat → Option Bool
  | 0 => some false
  | 1 => some true
  | _ => none

/-- A choice that the block gives or marks unchanged: its code is looked at only where it is given. -/
def choice {α : Type} (bit : Bool) (v : Option α) : Option (Option α) :=
  if bit then v.map some else some none

/-! ## The blocks of R204 -/

/-- The empty block of RELEASE, CLEAR-MAP, RELEARN and RESTART-CHAIN. -/
def readEmpty (b : List Byte) : Option Unit := if b.length = 0 then some () else none

/-- CLAIM: wait, 0 or 1 (R180). -/
def readClaim (b : List Byte) : Option Bool := if b.length = 1 then yesNoOf (byteAt b 0) else none

/-- FREEZE and THAW: a key that is not 0 (R186, R187). -/
def readKey (b : List Byte) : Option Key :=
  if b.length = 4 ∧ u32At b 0 ≠ 0 then some (BitVec.ofNat 32 (u32At b 0)) else none

/-- What SET-SHOW does with the ambient. -/
inductive AmbientChange where
  | keep
  | clear
  | set (t : Int)
  deriving DecidableEq, Repr

/-- The settings of SET-SHOW, as carried. -/
structure ShowBlock where
  m : Option Nat
  want : Option (RGB Nat)
  floorRatio : Option Nat
  ambient : AmbientChange
  timeout : Option Nat
  deriving DecidableEq, Repr

/-- SET-SHOW (R184, R204). -/
def readShow (b : List Byte) : Option ShowBlock :=
  if b.length = 14 ∧ ¬(bitAt b 0 3 = true ∧ bitAt b 0 4 = true) then
    some {
      m := given (bitAt b 0 0) (u16At b 1)
      want := given (bitAt b 0 1) (rgb16At b 3)
      floorRatio := given (bitAt b 0 2) (u16At b 9)
      ambient := if bitAt b 0 4 then .clear else if bitAt b 0 3 then .set (s16At b 11) else .keep
      timeout := given (bitAt b 0 5) (byteAt b 13) }
  else none

/-- The settings of SET-BUDGET, as carried. -/
structure BudgetBlock where
  budget : Option Nat
  mode : Option BudgetMode
  hysteresis : Option Nat
  count : Option Nat
  deriving DecidableEq, Repr

/-- SET-BUDGET (R148, R204). -/
def readBudget (b : List Byte) : Option BudgetBlock :=
  if b.length = 9 then
    (choice (bitAt b 0 1) (budgetModeOf (byteAt b 4))).map fun mode =>
      { budget := given (bitAt b 0 0) (u16At b 2)
        mode := mode
        hysteresis := given (bitAt b 0 2) (u16At b 5)
        count := given (bitAt b 0 3) (u16At b 7) }
  else none

/-- The settings of SET-TEMP, as carried. -/
structure TempBlock where
  w : Option Nat
  hotLimit : Option Int
  tripLimit : Option Int
  hysteresis : Option Nat
  deriving DecidableEq, Repr

/-- SET-TEMP (R76, R204). -/
def readTemp (b : List Byte) : Option TempBlock :=
  if b.length = 10 then
    some {
      w := given (bitAt b 0 0) (u16At b 2)
      hotLimit := given (bitAt b 0 1) (s16At b 4)
      tripLimit := given (bitAt b 0 2) (s16At b 6)
      hysteresis := given (bitAt b 0 3) (u16At b 8) }
  else none

/-- The settings of SET-SLEW, as carried. -/
structure SlewBlock where
  stepUp : Option Nat
  stepDown : Option Nat
  tolerance : Option Nat
  deriving DecidableEq, Repr

/-- SET-SLEW (R120, R204). -/
def readSlew (b : List Byte) : Option SlewBlock :=
  if b.length = 8 then
    some {
      stepUp := given (bitAt b 0 0) (u16At b 2)
      stepDown := given (bitAt b 0 1) (u16At b 4)
      tolerance := given (bitAt b 0 2) (u16At b 6) }
  else none

/-- The settings of HOT or SENSOR in a SET-PROTECT, as carried. -/
structure ClassBlock where
  mode : Option ProtMode
  action : Option ActionKind
  dim : Option Nat
  retry : Option Nat
  deriving DecidableEq, Repr

/-- Four settings of one class: bits `n` to `n + 3` of the change map, fields from offset `k`. -/
def readClass (b : List Byte) (n k : Nat) : Option ClassBlock :=
  match choice (bitAt b 0 n) (protModeOf (byteAt b k)), choice (bitAt b 0 (n + 1)) (actionKindOf (byteAt b (k + 1))) with
  | some mode, some action =>
    some {
      mode := mode
      action := action
      dim := given (bitAt b 0 (n + 2)) (u16At b (k + 2))
      retry := given (bitAt b 0 (n + 3)) (u16At b (k + 4)) }
  | _, _ => none

/-- The settings of SET-PROTECT, as carried. -/
structure ProtBlock where
  hot : ClassBlock
  sensor : ClassBlock
  shortReport : Option Bool
  lostPolicy : Option LostPolicy
  missLimit : Option Nat
  roundInterval : Option Nat
  deriving DecidableEq, Repr

/-- SET-PROTECT (R136, R204). -/
def readProtect (b : List Byte) : Option ProtBlock :=
  if b.length = 20 then
    match readClass b 0 2, readClass b 4 8, choice (bitAt b 0 8) (shortModeOf (byteAt b 14)),
      choice (bitAt b 0 9) (lostPolicyOf (byteAt b 15)) with
    | some hot, some sensor, some short, some policy =>
      some {
        hot := hot
        sensor := sensor
        shortReport := short
        lostPolicy := policy
        missLimit := given (bitAt b 0 10) (u16At b 16)
        roundInterval := given (bitAt b 0 11) (u16At b 18) }
    | _, _, _, _ => none
  else none

/-- The sense-set disposition of PUT-PROFILE (R33). -/
inductive Disposition where
  | keep
  | clear
  | supply
  deriving DecidableEq, Repr

/-- Dispositions: 0 KEEP, 1 CLEAR, 2 SUPPLY (R204). -/
def dispositionOf : Nat → Option Disposition
  | 0 => some .keep
  | 1 => some .clear
  | 2 => some .supply
  | _ => none

/-- An optional group of the profile image: absent, present and well shaped, or refused. -/
def group {α : Type} (bit : Bool) (v : Option α) : Option (Option α) := choice bit v

/-- The base link of R32: 1..96. -/
def linkOf (n : Nat) : Option Nat := if 1 ≤ n ∧ n ≤ 96 then some n else none

/-- The profile image at offset `k` (R205), checked for shape and clamped as R32 lays down. Presence bits 10 to 15, which R205 names for
no group, are ignored (DEDUCED, log entry 16). -/
def readImage (b : List Byte) (k : Nat) : Option Profile :=
  let has (n : Nat) := bitAt b (k + 1) n
  match profileKindOf (byteAt b k), group (has 1) (linkOf (byteAt b (k + 9))), group (has 8) (trackModeOf (byteAt b (k + 37))),
    group (has 7)
      (match sourceOf (byteAt b (k + 34)), sourceOf (byteAt b (k + 35)) with
        | some x, some y => some ({ primary := x, fallback := y, fixed := clampTemp (s8At b (k + 36)) } : TempSource)
        | _, _ => none) with
  | some kind, some link, some mode, some source =>
    if (kind = .tile ∧ has 0 = false) ∨ (kind = .base ∧ (has 0 = true ∨ has 5 = true ∨ has 9 = true)) then none
    else some {
      kind := kind
      serial := given (has 0) (BitVec.ofNat 48 (u48At b (k + 3)))
      link := link
      luminance := given (has 2) ⟨rgb16At b (k + 10), clampTemp (s8At b (k + 16))⟩
      thermal := given (has 3) ((rgb16At b (k + 17)).map (min 200))
      ageing := given (has 4) ((rgb16At b (k + 23)).map (min 500))
      href := given (has 5) (u24At b (k + 29))
      power := given (has 6) (min 2000 (u16At b (k + 32)))
      tempSource := source
      mode := mode
      sense := given (has 9) ⟨rgb16At b (k + 38), clampTemp (s8At b (k + 44)), u24At b (k + 45)⟩ }
  | _, _, _, _ => none

/-- The parameters of PUT-PROFILE. -/
structure PutBlock where
  index : Nat
  disposition : Disposition
  record : Profile
  deriving DecidableEq, Repr

/-- PUT-PROFILE (R32, R33, R204). -/
def readPutProfile (b : List Byte) : Option PutBlock :=
  if b.length = 50 ∧ byteAt b 0 ≤ 96 then
    match dispositionOf (byteAt b 1), readImage b 2 with
    | some d, some r =>
      if d = .supply ∧ r.kind = .tile ∧ r.sense = none then none else some ⟨byteAt b 0, d, r⟩
    | _, _ => none
  else none

/-- DROP-PROFILE: an index 1..96 (R38). -/
def readDrop (b : List Byte) : Option Nat := if b.length = 1 then linkOf (byteAt b 0) else none

/-- A map content: 0..63 a slot, 255 EMPTY (R204). -/
def contentOf (n : Nat) : Option (Option Slot) :=
  if n = 255 then some none else (slotOf n).map some

/-- PUT-MAP (R53, R204). -/
def readPutMap (b : List Byte) : Option (Pos × Option Slot) :=
  if b.length = 3 then
    match posOf (byteAt b 0) (byteAt b 1), contentOf (byteAt b 2) with
    | some pos, some c => some (pos, c)
    | _, _ => none
  else none

/-- The mode choice of SET-TRACK (R107). -/
inductive TrackChoice where
  | mode (x : TrackMode)
  | profile
  | keep
  deriving DecidableEq, Repr

/-- Mode choices: 0 FIXED, 1 MODEL, 2 SENSED, 3 PROFILE, 4 KEEP (R204). -/
def trackChoiceOf : Nat → Option TrackChoice
  | 0 => some (.mode .fixed)
  | 1 => some (.mode .model)
  | 2 => some (.mode .sensed)
  | 3 => some .profile
  | 4 => some .keep
  | _ => none

/-- The parameters of SET-TRACK. -/
structure TrackBlock where
  slot : Slot
  choice : TrackChoice
  manual : Option (RGB Nat)
  deriving DecidableEq, Repr

/-- SET-TRACK (R107, R204). -/
def readTrack (b : List Byte) : Option TrackBlock :=
  if b.length = 9 then
    match slotOf (byteAt b 0), trackChoiceOf (byteAt b 1), yesNoOf (byteAt b 2) with
    | some i, some c, some g => some ⟨i, c, given g (rgb16At b 3)⟩
    | _, _, _ => none
  else none

/-- CLEAR-FAULTS: a slot, or 255 for ALL (`none`) (R140, R204). -/
def readClearFaults (b : List Byte) : Option (Option Slot) :=
  if b.length = 1 then contentOf (byteAt b 0) else none

/-- SWEEP (R162, R204): slots in range and in order, and a channel set that is not empty and holds no other bit. -/
def readSweep (b : List Byte) : Option SweepParams :=
  if b.length = 3 then
    match slotOf (byteAt b 0), slotOf (byteAt b 1) with
    | some f, some l =>
      if f ≤ l ∧ 1 ≤ byteAt b 2 ∧ byteAt b 2 ≤ 7 then
        some ⟨f, l, ⟨(byteAt b 2).testBit 0, (byteAt b 2).testBit 1, (byteAt b 2).testBit 2⟩⟩
      else none
    | _, _ => none
  else none

/-- SET-NOTICE (R201, R204). -/
def readNotice (b : List Byte) : Option Notices := if b.length = 1 then noticesOf (byteAt b 0) else none

end Sys2Proof.Machine
end

