-- ==== Sys2Proof/Machine/LayoutMap.lean ====
section
/-! DEFINITION. The layout map: its entries, the inverse, and neighbour lookups (R50, R51, R54, R58). -/

namespace Sys2Proof.Machine

/-- The number of a position's entry: 16 * row + col. -/
def Pos.number (x : Pos) : Fin 256 := ⟨16 * x.row.val + x.col.val, by omega⟩

/-- The position of the entry numbered `n`. -/
def posAt (n : Fin 256) : Pos := ⟨⟨n.val % 16, by omega⟩, ⟨n.val / 16, by omega⟩⟩

/-- The slot an entry names. -/
def MapCell.names : MapCell → Option Slot
  | .empty => none
  | .slot i => some i
  | .failing => none

/-- The content of a map entry: EMPTY or a slot (R50). -/
def Store.entry (st : Store) (x : Pos) : Option Slot := (st.map.get x.number).names

/-- The entry that holds a content. -/
def cellOf : Option Slot → MapCell
  | none => .empty
  | some i => .slot i

/-- The inverse built from the entries (R51). -/
def buildInverse (m : Table MapCell 256) : Table (Option Pos) 64 :=
  m.entries.foldl
    (fun inv x => match x.2.names with | some i => inv.put i (some (posAt x.1)) | none => inv)
    (Table.fill 64 none)

/-- Slot `n` appears at a position other than `x` (R54). -/
def Store.placedElsewhere (st : Store) (x : Pos) (n : Slot) : Bool :=
  st.map.entries.any fun y => y.1 != x.number && y.2.names == some n

/-- The inverse after PUT-MAP of `content` at `x`, which held `old` (R51). -/
def inverseAfterPut (inv : Table (Option Pos) 64) (x : Pos) (old content : Option Slot) : Table (Option Pos) 64 :=
  let inv := match old with | some m => inv.put m none | none => inv
  match content with
  | some n => inv.put n (some x)
  | none => inv

/-- The four directions (chapter 00). -/
inductive Direction where
  | north
  | east
  | south
  | west
  deriving DecidableEq, Repr

/-- The neighbouring position, or none off the grid (R58). -/
def neighbourPos (x : Pos) : Direction → Option Pos
  | .north => if h : 0 < x.row.val then some { x with row := ⟨x.row.val - 1, by omega⟩ } else none
  | .east => if h : x.col.val < 15 then some { x with col := ⟨x.col.val + 1, by omega⟩ } else none
  | .south => if h : x.row.val < 15 then some { x with row := ⟨x.row.val + 1, by omega⟩ } else none
  | .west => if h : 0 < x.col.val then some { x with col := ⟨x.col.val - 1, by omega⟩ } else none

/-- The four answers of a neighbour lookup (R58). -/
inductive Neighbour where
  | unmapped
  | edge
  | empty
  | slot (i : Slot)
  deriving DecidableEq, Repr

/-- The neighbour lookup for slot `i` in direction `d` (R58): it reads the map alone. -/
def neighbour (s : State) (i : Slot) (d : Direction) : Neighbour :=
  match s.inverse.get i with
  | none => .unmapped
  | some x =>
    match neighbourPos x d with
    | none => .edge
    | some y =>
      match s.store.entry y with
      | none => .empty
      | some n => .slot n

/-- The entries that name a slot (R56, R61). -/
def Store.mapped (st : Store) : Nat := st.map.count fun c => c.names.isSome

end Sys2Proof.Machine
end

