-- ==== Sys2Proof/Machine/Flags.lean ====
section
/-! DEFINITION. The condition flags and actions of the protection unit (R124, R131 to R134, R137, R138), and the notices an
event adds for changed slot states, flags and actions (R19, R145). -/

namespace Sys2Proof.Machine

/-! ## A class that is always reported: OVERHEAT, LOST, PROBE -/

/-- The condition becomes ACTIVE and is reported (R124). -/
def Cond.raise (_ : Cond) : Cond := ⟨true, true, true⟩

/-- The condition becomes INACTIVE: the active flag clears and the latched flag stays (R124). -/
def Cond.clear (x : Cond) : Cond := { x with cond := false, active := false }

/-- A condition judged without hysteresis under a mode that may be OFF (SHORT, R129; `report` is whether it is reported). An
evaluation that keeps the condition ACTIVE leaves its flags. -/
def Cond.judge (report now : Bool) (x : Cond) : Cond :=
  match x.cond, now with
  | false, true => if report then x.raise else { x with cond := true }
  | true, true => x
  | true, false => x.clear
  | false, false => x

/-! ## HOT and SENSOR: modes and actions -/

/-- The action in force for a settable kind. -/
def ActionKind.inForce : ActionKind → Action
  | .hold => .hold
  | .dim => .dim
  | .blank => .blank

/-- The dim level in force, present while the action in force is DIM (R123). -/
def ClassSettings.dimInForce (c : ClassSettings) : Option Nat := if c.action = .dim then some c.dim else none

/-- A retry time in milliseconds, as a timer starts with it (R132). -/
def ClassSettings.retryMs (c : ClassSettings) : Nat := c.retry * 1000

/-- The action put in force (R131): under RETRY its timer starts. -/
def Act.start (c : ClassSettings) : Act :=
  ⟨c.action.inForce, c.dimInForce, if c.mode = .retry then some c.retryMs else none⟩

/-- The action put in force if none of its class is (R131). -/
def Act.startIfNone (c : ClassSettings) (a : Act) : Act := if a.kind = .none then Act.start c else a

/-- The action released and its timer stopped. -/
def Act.released : Act := {}

/-- One evaluation of HOT or SENSOR that finds the condition `now`: the rows of R131's table. -/
def evalClass (c : ClassSettings) (now : Bool) (x : Cond) (a : Act) : Cond × Act :=
  match x.cond, now with
  | false, true =>
    match c.mode with
    | .latched => (x.raise, a.startIfNone c)
    | .retry => (x.raise, a.startIfNone c)
    | .report => (x.raise, a)
    | .off => ({ x with cond := true }, a)
  | true, true =>
    match c.mode with
    | .latched => (x, a.startIfNone c)
    | .retry => (x, a.startIfNone c)
    | .report => (x, a)
    | .off => (x, a)
  | true, false => (x.clear, a)
  | false, false => (x, a)

/-- The state a condition with hysteresis is found in: ACTIVE at or above `hi`, INACTIVE at or below `lo`, else as it was
(R125, R126). -/
def hysteresis (was : Bool) (value hi lo : Int) : Bool :=
  if hi ≤ value then true else if value ≤ lo then false else was

/-- A class brought into line with a changed mode (R137). -/
def alignMode (c : ClassSettings) (x : Cond) (a : Act) : Cond × Act :=
  let reported : Cond := ⟨x.cond, x.cond, x.latched || x.cond⟩
  match c.mode with
  | .off => ({ x with active := false }, Act.released)
  | .report => (reported, Act.released)
  | .latched =>
    (reported, if a.kind = .none then (if x.cond then Act.start c else a) else { a with timer := none })
  | .retry =>
    (reported,
      if a.kind = .none then (if x.cond then Act.start c else a)
      else { a with timer := some (a.timer.getD c.retryMs) })

/-- An action in force takes the class's present kind and dim level, and its timer runs on (R138). -/
def alignAction (c : ClassSettings) (a : Act) : Act :=
  if a.kind = .none then a else { a with kind := c.action.inForce, dim := c.dimInForce }

/-! ## The protection factor -/

/-- The dim level an action puts on P: its level while it is DIM, 4096 otherwise. -/
def Act.dimLevel (a : Act) : Nat := if a.kind = .dim then a.dim.getD 4096 else 4096

/-- P of a slot (R134): 0 under any BLANK, else the least of 4096 and the dim levels of the DIM actions in force. -/
def protFactor (r : ProtRec) : Nat :=
  if r.hotAct.kind = .blank ∨ r.sensorAct.kind = .blank ∨ r.overheatBlank = true then 0
  else min 4096 (min r.hotAct.dimLevel r.sensorAct.dimLevel)

/-- A HOLD action is in force on the slot (R133). -/
def ProtRec.holding (r : ProtRec) : Bool := r.hotAct.kind == .hold || r.sensorAct.kind == .hold

/-- The six conditions in the order of R123. -/
def ProtRec.conds (r : ProtRec) : List Cond := [r.hot, r.overheat, r.sensor, r.lost, r.short, r.probe]

/-! ## Notices -/

/-- Do two conditions carry the same flags? -/
def Cond.sameFlags (x y : Cond) : Bool := x.active == y.active && x.latched == y.latched

/-- Do two protection records carry the same flags and the same actions in force? -/
def ProtRec.sameFlags (x y : ProtRec) : Bool :=
  x.hot.sameFlags y.hot && x.overheat.sameFlags y.overheat && x.sensor.sameFlags y.sensor && x.lost.sameFlags y.lost
    && x.short.sameFlags y.short && x.probe.sameFlags y.probe && x.hotAct.kind == y.hotAct.kind
    && x.sensorAct.kind == y.sensorAct.kind && x.overheatBlank == y.overheatBlank

/-- A slot's state changed, or the answering flag of a LOST slot was set (R19). -/
def tileNotice (x y : SlotRec) : Bool :=
  x.state != y.state || (y.state == .lost && y.answering && !x.answering)

/-- TILE is due: some slot has a change that R19 notices. -/
def tileDue (before after : State) : Bool :=
  slots.any fun i => tileNotice (before.tile i).chain (after.tile i).chain

/-- COND is due: some flag or action of a slot, or a flag of BUDGET, is not as it was (R145, R149, R157). -/
def condDue (before after : State) : Bool :=
  (slots.any fun i => !(before.tile i).prot.sameFlags (after.tile i).prot)
    || before.budget.active != after.budget.active || before.budget.latched != after.budget.latched

/-- The end of an event: TILE and COND are added, each once, where the event changed what they tell of. -/
def notify (before after : State) : State :=
  after.noticeAll { tile := tileDue before after, cond := condDue before after }

/-- One whole event of the part. -/
def event (f : State → State) (s : State) : State := notify s (f s)

end Sys2Proof.Machine
end

