-- ==== Sys2Proof/Machine/BudgetUnit.lean ====
section
/-! DEFINITION. The segment power budget: the estimate's power terms, the evaluation and its recovery modes (R150 to R156), and
the effects of SET-BUDGET on the unit (R149). -/

namespace Sys2Proof.Machine

/-- One slot's power term in 0.1 W (R150). -/
def powerTerm (pw load : Nat) (undimmed : RGB Nat) : Nat :=
  pw * 10 * load * (undimmed.r + undimmed.g + undimmed.b) / 3132675

/-- The segment is over budget (R151). -/
def BudgetSettings.over (x : BudgetSettings) (estimate : Nat) : Bool := decide (x.budget * 10 < estimate)

/-- The candidate factor (R151). -/
def BudgetSettings.candidate (x : BudgetSettings) (estimate : Nat) : Nat :=
  if x.over estimate then clampNat 1024 4096 (x.budget * 10 * 4096 / estimate) else 4096

/-- The release threshold (R151). -/
def BudgetSettings.threshold (x : BudgetSettings) : Nat := x.budget * 10 * (100 - x.hysteresis) / 100

/-- What an evaluation decides: the state, Sb, the hold counter, and whether it is a trip. -/
structure BudgetVerdict where
  state : BudgetState
  sb : Nat
  hold : Nat
  trip : Bool
  deriving DecidableEq, Repr

/-- An evaluation from state CLEAR (R153 to R156): over budget it trips. -/
def evalClear (x : BudgetSettings) (estimate : Nat) : BudgetVerdict :=
  if x.over estimate then
    { state := .tripped
      sb := if x.mode = .report then 4096 else x.candidate estimate
      hold := if x.mode = .count then x.count else 0
      trip := true }
  else { state := .clear, sb := 4096, hold := 0, trip := false }

/-- An evaluation from state TRIPPED with factor `sb` and hold counter `hold` (R153 to R156). -/
def evalTripped (x : BudgetSettings) (estimate sb hold : Nat) : BudgetVerdict :=
  match x.mode with
  | .next => { evalClear x estimate with trip := false }
  | .report => { evalClear x estimate with trip := false }
  | .below =>
    if estimate ≤ x.threshold then { state := .clear, sb := 4096, hold := 0, trip := false }
    else { state := .tripped, sb := min sb (x.candidate estimate), hold := hold, trip := false }
  | .count =>
    if 1 < hold then { state := .tripped, sb := sb, hold := hold - 1, trip := false }
    else evalClear x estimate

/-- The unit after a verdict (R152): BUDGET's active flag is set exactly while the state is TRIPPED, a trip sets both flags and
raises the trip count. `counted` is whether a trip counts as one. -/
def Budget.apply (b : Budget) (estimate : Nat) (v : BudgetVerdict) (counted : Bool) : Budget :=
  { b with
    state := v.state
    sb := v.sb
    hold := v.hold
    candidate := b.set.candidate estimate
    active := v.state == .tripped
    latched := b.latched || (v.trip && counted)
    trips := if v.trip && counted then nextCount b.trips else b.trips }

/-- The evaluation of a recomputation (section 8.4), and whether it was a trip; in state OFF none is made. -/
def Budget.evaluate (b : Budget) (estimate : Nat) : Budget × Bool :=
  let b := { b with estimate := estimate }
  match b.state with
  | .off => (b, false)
  | .clear => let v := evalClear b.set estimate; (b.apply estimate v true, v.trip)
  | .tripped => let v := evalTripped b.set estimate b.sb b.hold; (b.apply estimate v true, v.trip)

/-- The steps of R149 after the settings have taken their new values: `before` is the unit before the request. "Under REPORT the
evaluation sets the state alone" is read with R152 and R156: Sb stays 4096 and no hold counter is set, while the candidate, BUDGET's
flags and the trip count follow the state as under every mode (DEDUCED, log entry 31). -/
def Budget.afterSet (before b : Budget) : Budget :=
  if b.set.budget = 0 then { b with state := .off, sb := 4096, hold := 0, active := false }
  else if b.set.budget ≠ before.set.budget ∨ b.set.mode ≠ before.set.mode ∨ before.state = .off then
    b.apply b.estimate (evalClear b.set b.estimate) (before.state != .tripped)
  else b

/-- The unit at RESTART-CHAIN (R160). -/
def Budget.restart (b : Budget) : Budget :=
  { b with
    state := if b.set.budget = 0 then .off else .clear
    sb := 4096
    estimate := 0
    candidate := 4096
    hold := 0
    active := false
    latched := false }

end Sys2Proof.Machine
end

