-- ==== Sys2Proof/Machine/Resolver.lean ====
section
/-! DEFINITION. The resolver: the walk of a chain of base links, resolution, binding by serial, and re-resolution (R36, R39 to
R47), and the fresh start of a tile's records (R63, R83, R105, R123). -/

namespace Sys2Proof.Machine

/-! ## Reading the profile area -/

/-- The index numbers 1..96 in ascending order. -/
def profileIndices : List Nat := (List.range 96).map (· + 1)

/-- The good record at index `k`. -/
def Store.profile (st : Store) (k : Nat) : Option Profile :=
  if h : 1 ≤ k ∧ k ≤ 96 then
    match st.profiles.get ⟨k - 1, by omega⟩ with
    | .good r => some r
    | .empty => none
    | .failing => none
  else none

/-- The content of index `k` replaced; an index outside 1..96 names nothing. -/
def Store.putCell (st : Store) (k : Nat) (c : ProfileCell) : Store :=
  if h : 1 ≤ k ∧ k ≤ 96 then { st with profiles := st.profiles.put ⟨k - 1, by omega⟩ c } else st

/-- The lowest index that holds a TILE record with this serial (R42 step 1). -/
def Store.findTile (st : Store) (serial : Serial) : Option Nat :=
  profileIndices.find? fun k =>
    match st.profile k with
    | some r => r.kind == .tile && r.serial == some serial
    | none => false

/-! ## The walk of a chain -/

/-- A walk of base links (R39, R40): the records reached, in order, and whether it stopped at a BADLINK link. -/
structure Walk where
  reached : List (Nat × Profile)
  bad : Bool
  deriving DecidableEq, Repr

/-- The walk from record `r` at index `k` with `links` links still allowed, `seen` holding the indices already in the chain.
A link that names an empty index, names a TILE record, leads back into the chain, or exceeds the limit is BADLINK (R40). -/
def walkFrom (look : Nat → Option Profile) : (links : Nat) → (seen : List Nat) → (k : Nat) → (r : Profile) → Walk
  | links, seen, k, r =>
    match r.link with
    | none => ⟨[(k, r)], false⟩
    | some j =>
      match links with
      | 0 => ⟨[(k, r)], true⟩
      | left + 1 =>
        match look j with
        | none => ⟨[(k, r)], true⟩
        | some q =>
          if q.kind = .tile ∨ j = k ∨ seen.contains j = true then ⟨[(k, r)], true⟩
          else
            let rest := walkFrom look left (k :: seen) j q
            ⟨(k, r) :: rest.reached, rest.bad⟩

/-- A group taken whole from the first record of the chain that carries it, with the index it came from (R39). -/
def firstGroup {α : Type} (reached : List (Nat × Profile)) (sel : Profile → Option α) : Option (α × Nat) :=
  reached.findSome? fun x => (sel x.2).map fun v => (v, x.1)

/-- The groups of a walk's records, with defaults for the rest (R39, R41); after a BADLINK link there is no luminance group. -/
def collect (r : Profile) (w : Walk) : Working :=
  let lum := if w.bad then none else firstGroup w.reached (·.luminance)
  let th := firstGroup w.reached (·.thermal)
  let ag := firstGroup w.reached (·.ageing)
  let pw := firstGroup w.reached (·.power)
  let ts := firstGroup w.reached (·.tempSource)
  let md := firstGroup w.reached (·.mode)
  let dflt : Working := {}
  { chain := w.reached.map (·.1)
    luminance := lum.map (·.1)
    thermal := (th.map (·.1)).getD dflt.thermal
    ageing := (ag.map (·.1)).getD dflt.ageing
    href := r.href.getD 0
    power := (pw.map (·.1)).getD dflt.power
    tempSource := (ts.map (·.1)).getD dflt.tempSource
    mode := (md.map (·.1)).getD dflt.mode
    sense := r.sense
    luminanceFrom := lum.map (·.2)
    thermalFrom := th.map (·.2)
    ageingFrom := ag.map (·.2)
    powerFrom := pw.map (·.2)
    tempSourceFrom := ts.map (·.2)
    modeFrom := md.map (·.2) }

/-- A resolution: a working profile, or a failure with its reason and partial profile (R40, R41). -/
inductive Resolution where
  | ok (w : Working)
  | fail (why : UnprofReason) (w : Working)
  deriving DecidableEq, Repr

/-- Resolve the record `r` at index `k` (R39, R40): at most 3 links are followed. -/
def resolve (look : Nat → Option Profile) (k : Nat) (r : Profile) : Resolution :=
  let w := walkFrom look 3 [] k r
  let c := collect r w
  if w.bad then .fail .badLink c
  else if c.luminance = none then .fail .noRef c
  else .ok c

/-! ## The link conditions of a PUT (R36) -/

/-- The indices reached from index `k` by following links, at most `n` of them. -/
def reachable (look : Nat → Option Profile) : (n : Nat) → (k : Nat) → List Nat
  | 0, k => [k]
  | n + 1, k =>
    match (look k).bind (·.link) with
    | none => [k]
    | some j => k :: reachable look n j

/-- The store's records as they would stand after record `r` is written at index `k`. -/
def Store.lookWith (st : Store) (k : Nat) (r : Profile) : Nat → Option Profile :=
  fun j => if j = k then some r else st.profile j

/-- Every chain that passes through index `k` ends at a record with no base link after at most 3 links, with no record
visited twice and no TILE record reached through a link, and the new record's own link names a BASE record at another index
(R36). -/
def linksOk (st : Store) (k : Nat) (r : Profile) : Bool :=
  let look := st.lookWith k r
  let own := match r.link with
    | none => true
    | some j => j != k && (match look j with | some q => q.kind == .base | none => false)
  own && profileIndices.all fun i =>
    match look i with
    | none => true
    | some q => !((reachable look 96 i).contains k) || !(walkFrom look 3 [] i q).bad

/-- Some record at an index other than `k` links to `k` (R34, R38). -/
def Store.linkedTo (st : Store) (k : Nat) : Bool :=
  profileIndices.any fun i => i != k && (match st.profile i with | some q => q.link == some k | none => false)

/-! ## Fresh starts and states -/

/-- A slot that enters JOINING with a fresh start (R12, R63, R83, R105, R123): every per-tile record starts afresh, and the
slot record holds the serial and, through ADOPT, confirmed coefficients of (0, 0, 0). -/
def joinFresh (serial : Serial) (confirmed : Option (RGB Nat)) : Tile :=
  { chain := { state := .joining, serial := some serial, confirmed := confirmed } }

/-- Applied gains of a slot that enters UNPROFILED (R116). -/
def SlewRec.uncorrected (x : SlewRec) : SlewRec := { x with ga := some (RGB.all 4096) }

/-- A slot that loses or fails to get its profile (R12, R17, R43, R45, R46, R116). A LOST slot stays LOST and takes
UNPROFILED as its former state; any other becomes UNPROFILED. Its bound profile becomes 0 and the resolver keeps the partial
profile. -/
def failBinding (why : UnprofReason) (w : Working) (t : Tile) : Tile :=
  let c := t.chain
  let c := if c.state = .lost then { c with former := some .unprofiled } else { c with state := .unprofiled }
  ((t.setChain { c with bound := 0, reason := some why }).setHeld (.part w)).setSlew t.slew.uncorrected

/-- A slot that binds to index `k` (R12, R17, R42, R46). JOINING stays JOINING unless its polled flag is set, UNPROFILED becomes
ACTIVE or JOINING as its polled flag says, and a LOST slot takes ACTIVE or JOINING as its former state. Each entry to ACTIVE, and
each binding while LOST, sets the first-set flag (R115). -/
def succeedBinding (k : Nat) (w : Working) (t : Tile) : Tile :=
  let c := { t.chain with bound := k, reason := none }
  let t := t.setHeld (.full w)
  match c.state with
  | .lost =>
    (t.setChain { c with former := some (if c.polled then .active else .joining) }).setSlew { t.slew with firstSet := true }
  | _ =>
    if c.polled then (t.setChain { c with state := .active }).setSlew { t.slew with firstSet := true }
    else t.setChain { c with state := .joining }

/-- Another slot's bound profile is index `k` (R42 step 2). -/
def boundElsewhere (s : State) (i : Slot) (k : Nat) : Bool :=
  slots.any fun j => j != i && (s.tile j).chain.bound == k

/-- The three steps of binding slot `i` (R42). -/
def bindOutcome (s : State) (i : Slot) : Nat × Resolution :=
  match (s.tile i).chain.serial.bind s.store.findTile with
  | none => (0, .fail .noProfile {})
  | some k =>
    if boundElsewhere s i k then (0, .fail .dupSerial {})
    else
      match s.store.profile k with
      | none => (0, .fail .noProfile {})
      | some r => (k, resolve s.store.profile k r)

/-- Binding of slot `i` is tried (R42, R43). -/
def tryBind (i : Slot) (s : State) : State :=
  let t := s.tile i
  match bindOutcome s i with
  | (k, .ok w) => s.putTile i (succeedBinding k w t)
  | (_, .fail why w) => s.putTile i (failBinding why w t)

/-- Binding of slot `i` is tried where the slot is one that waits (`p`). -/
def tryBindIf (p : SlotRec → Bool) (s : State) (i : Slot) : State :=
  if p (s.tile i).chain then tryBind i s else s

/-- A slot that waits to bind after a store write (R46). -/
def SlotRec.waits (c : SlotRec) : Bool :=
  c.state == .unprofiled || (c.state == .lost && c.former == some .unprofiled)

/-- The waiting slots are retried in ascending order (R46). -/
def retryWaiting (s : State) : State := slots.foldl (tryBindIf SlotRec.waits) s

/-- A slot that is bound after an enumeration (R21): JOINING or UNPROFILED. -/
def SlotRec.enumerated (c : SlotRec) : Bool := c.state == .joining || c.state == .unprofiled

/-- The JOINING and UNPROFILED slots below `n` are tried in ascending order (R21, R22). -/
def bindEnumerated (n : Nat) (s : State) : State :=
  (slots.filter fun i => decide (i.val < n)).foldl (tryBindIf SlotRec.enumerated) s

/-- The chain the resolver last walked for a slot. -/
def Held.chain : Held → List Nat
  | .none => []
  | .full w => w.chain
  | .part w => w.chain

/-- A bound slot whose working profile depends on index `k` (R44, R45). -/
def Tile.dependsOn (t : Tile) (k : Nat) : Bool :=
  t.chain.bound != 0 && (t.chain.bound == k || t.held.chain.contains k)

/-- Re-resolution of a bound slot from the store as it now stands (R45): the bound index must still hold a TILE record
carrying the slot's serial. -/
def reresolve (st : Store) (t : Tile) : Tile :=
  match st.profile t.chain.bound with
  | none => failBinding .noProfile {} t
  | some r =>
    if r.kind = .tile ∧ r.serial = t.chain.serial then
      match resolve st.profile t.chain.bound r with
      | .ok w => t.setHeld (.full w)
      | .fail why w => failBinding why w t
    else failBinding .noProfile {} t

/-- Every slot that depends on the target index is re-resolved (R45); `before` holds the dependencies as they stood before the
write (R44). -/
def reresolveAll (k : Nat) (s : State) : State :=
  s.setTiles (s.tiles.map fun t => if t.dependsOn k then reresolve s.store t else t)

/-- The slot bound to index `k`, if any. -/
def slotBoundTo (s : State) (k : Nat) : Option Slot :=
  slots.find? fun i => (s.tile i).chain.bound == k

end Sys2Proof.Machine
end

