-- ==== Sys2Proof/Machine/Engine.lean ====
section
/-! DEFINITION. The uniformity engine and the slew stage: the ten stages of a recomputation (R80 to R98), stage 9 (R113 to
R118), and re-formation (R99, R100, R119). -/

namespace Sys2Proof.Machine

/-! ## Tracking mode -/

/-- The working or partial profile of a slot, the defaults where the resolver holds none (R39, R41). -/
def Held.groups : Held → Working
  | .none => {}
  | .full w => w
  | .part w => w

/-- The working profile of a bound slot. -/
def Held.working : Held → Option Working
  | .none => Option.none
  | .full w => Option.some w
  | .part _ => Option.none

/-- The tracking mode in force (R106): the override if one stands, else the working profile's; none where the slot holds no
working profile. -/
def Tile.mode (t : Tile) : Option TrackMode :=
  t.held.working.map fun w => t.slew.override.getD w.mode

/-- An ACTIVE slot outside FIXED mode: it takes stages 1 to 9 (R82). -/
def Tile.computes (t : Tile) : Bool :=
  t.chain.state == .active && (t.mode == some .model || t.mode == some .sensed)

/-- A slot that takes coefficients (R82). -/
def Tile.formed (t : Tile) : Bool := t.chain.state == .active || t.chain.state == .unprofiled

/-! ## Stages 1 to 5 -/

/-- The references of stage 1 (R84). -/
structure Reference where
  set : RefSet
  senseAbsent : Bool
  lum : RGB Nat
  temp : Int
  hours : Nat
  deriving DecidableEq, Repr

/-- The MODEL references. A working profile always carries a luminance group (R40); the zeros stand where there is none. -/
def modelReference (w : Working) (senseAbsent : Bool) : Reference :=
  match w.luminance with
  | some l => ⟨.model, senseAbsent, l.lref, l.tref, w.href⟩
  | none => ⟨.model, senseAbsent, RGB.all 0, 0, w.href⟩

/-- Stage 1 (R84). -/
def reference (w : Working) (mode : TrackMode) : Reference :=
  match mode, w.sense with
  | .sensed, some x => ⟨.sensed, false, x.lsense, x.tsense, x.hsense⟩
  | .sensed, none => modelReference w true
  | .model, _ => modelReference w false
  | .fixed, _ => modelReference w false

/-- The thermal factor of a channel (R85). -/
def thermalFactor (k : Nat) (delta : Int) : Nat :=
  (clampInt 2048 4505 (4096 - divNear (k * delta * 4096) 10000)).toNat

/-- The ageing factor of a channel (R86). -/
def ageingFactor (a hs : Nat) : Nat :=
  (clampInt 2048 4096 (4096 - divNear (a * hs * 4096 : Nat) 10000000)).toNat

/-- The capacity of a channel (R87). -/
def capacity (lum fth fag : Nat) : Nat := (divNear (lum * fth * fag : Nat) 16777216).toNat

/-- The floor of a channel (R88). -/
def floorOf (floorRatio want : Nat) : Nat := want * floorRatio / 4096

/-- A channel passes the contributing test (R89). -/
def passes (e fl : Nat) : Bool := decide (0 < e) && decide (fl ≤ e)

/-- The channels on which a tile fails the contributing test, in R, G, B order (R89). -/
def failingChans (e floors : RGB Nat) : List Chan :=
  Chan.order.filter fun c => !passes (e.get c) (floors.get c)

/-- Stages 1 to 5 of a tile that takes them, as recomputation `number` (R84 to R89). -/
def computeStages (number : Nat) (floors : RGB Nat) (w : Working) (mode : TrackMode) (teff : Option Int) (x : EngineRec) :
    EngineRec :=
  let ref := reference w mode
  let delta := match teff with | some t => t - ref.temp | none => 0
  let hs := x.hours.getD 0 - ref.hours
  let fth := w.thermal.map fun k => thermalFactor k delta
  let fag := w.ageing.map fun a => ageingFactor a hs
  let e := ⟨capacity ref.lum.r fth.r fag.r, capacity ref.lum.g fth.g fag.g, capacity ref.lum.b fth.b fag.b⟩
  let failing := failingChans e floors
  { x with
    refSet := some ref.set
    senseAbsent := some ref.senseAbsent
    delta := some delta
    fth := some fth
    hs := some hs
    fag := some fag
    e := some e
    contributing := failing.isEmpty
    failing := some failing
    computedAt := some number }

/-- The engine record of an UNPROFILED slot or an ACTIVE slot in FIXED mode (R82). -/
def EngineRec.uncomputed (x : EngineRec) : EngineRec :=
  { x with
    refSet := none, delta := none, fth := none, hs := none, fag := none, e := none, gt := none, contributing := false }

/-- The SHORT result of a slot that receives one: FAIL for a computing tile that does not contribute (R90). -/
def shortFails (t : Tile) : Bool := t.computes && !t.eng.contributing

/-- SHORT judged from the slot's result (R129). -/
def judgeShort (report : Bool) (t : Tile) : Tile :=
  t.setProt { t.prot with short := t.prot.short.judge report (shortFails t) }

/-- Stages 1 to 5 for one slot, as its state and mode lay down (R82). -/
def stagesTo5 (number : Nat) (floors : RGB Nat) (report : Bool) (t : Tile) : Tile :=
  match t.chain.state with
  | .vacant => t
  | .joining => judgeShort report (t.setChain { t.chain with pending := none })
  | .lost => t.setEng { t.eng with contributing := false }
  | .unprofiled => judgeShort report (t.setEng t.eng.uncomputed)
  | .active =>
    if t.computes then
      judgeShort report
        (t.setEng (computeStages number floors t.held.groups (t.mode.getD .model) t.temp.teff t.eng))
    else judgeShort report (t.setEng t.eng.uncomputed)

/-! ## Stages 6 and 7 -/

/-- A contributing tile with its number and its capacities. -/
def contributors (tiles : Table Tile 64) : List (Slot × RGB Nat) :=
  tiles.entries.filterMap fun x =>
    if x.2.computes && x.2.eng.contributing then x.2.eng.e.map fun e => (x.1, e) else none

/-- The least of a list of numbers, none for an empty list. -/
def leastOf : List Nat → Option Nat
  | [] => none
  | x :: xs => match leastOf xs with | none => some x | some y => some (min x y)

/-- The least capacity of a channel over the contributing tiles (R91), 0 where there is none. -/
def minCapacity (cs : List (Slot × RGB Nat)) (c : Chan) : Nat := (leastOf (cs.map fun x => x.2.get c)).getD 0

/-- The lowest-numbered contributing slot whose capacity is the least of its channel (R102), slot 0 where there is none. -/
def limitingSlot (cs : List (Slot × RGB Nat)) (c : Chan) : Slot :=
  ((cs.find? fun x => x.2.get c == minCapacity cs c).map (·.1)).getD 0

/-- The per-channel scale (R91). -/
def scaleOf (minE want : Nat) : Nat := minE * 4096 / want

/-- The channel whose per-channel scale is least, where that is below 4096, the first in R, G, B order among equals (R102). -/
def limitingChan (x : RGB Nat) : Option Chan :=
  let least := min x.r (min x.g x.b)
  if 4096 ≤ least then none else Chan.order.find? fun c => x.get c == least

/-- Target of a channel (R92). -/
def targetOf (want s : Nat) : Nat := want * s / 4096

/-- Stages 6 and 7 (R91, R92, R102): the wall record of a recomputation, from the tiles after stage 5. -/
def wallStages (sh : ShowRec) (floors : RGB Nat) (tiles : Table Tile 64) (w : WallRec) : WallRec :=
  let cs := contributors tiles
  let base : WallRec := { w with
    number := nextCount w.number
    wantInUse := sh.want
    floorRatioInUse := sh.floorRatio
    floors := some floors
    contributing := cs.length
    short := tiles.count shortFails }
  if cs.isEmpty then
    { base with
      minE := none, scales := none, s := 4096, limiting := none, limitingSlots := none
      target := sh.want.map fun x => targetOf x 4096 }
  else
    let minE : RGB Nat := ⟨minCapacity cs .r, minCapacity cs .g, minCapacity cs .b⟩
    let scales := minE.zip scaleOf sh.want
    let s := min 4096 (min scales.r (min scales.g scales.b))
    { base with
      minE := some minE
      scales := some scales
      s := s
      limiting := limitingChan scales
      limitingSlots := some ⟨limitingSlot cs .r, limitingSlot cs .g, limitingSlot cs .b⟩
      target := sh.want.map fun x => targetOf x s }

/-! ## Stages 8 and 9 -/

/-- The target gain of a channel (R94). -/
def targetGain (target e : Nat) : Nat := if e = 0 then 4096 else min 4096 (target * 4096 / e)

/-- One step of one channel and its status (R114). -/
def slewStep (x : SlewSettings) (ga gt : Nat) : Nat × SlewStatus :=
  if gt - ga ≤ x.tolerance ∧ ga - gt ≤ x.tolerance then (ga, .settled)
  else if ga < gt then (min gt (ga + x.stepUp), .up)
  else (max gt (ga - x.stepDown), .down)

/-- Stage 9 of an ACTIVE tile in MODEL or SENSED mode with target gains `gt` (R113). -/
def slewComputing (x : SlewSettings) (holding : Bool) (gt : RGB Nat) (r : SlewRec) : SlewRec :=
  if r.firstSet then { r with ga := some gt, firstSet := false, status := some (RGB.all .first) }
  else if holding then { r with status := some (RGB.all .held) }
  else
    match r.ga with
    | none => r
    | some ga =>
      let step := ga.zip (slewStep x) gt
      { r with ga := some (step.map (·.1)), status := some (step.map (·.2)) }

/-- Stages 8 and 9 of one slot (R94, R113). -/
def stages8And9 (x : SlewSettings) (target : RGB Nat) (t : Tile) : Tile :=
  match t.chain.state with
  | .active =>
    if t.mode = some .fixed then
      t.setSlew { t.slew with ga := some t.slew.manual, firstSet := false, status := some (RGB.all .manual) }
    else if t.computes then
      let gt := target.zip targetGain (t.eng.e.getD (RGB.all 0))
      (t.setEng { t.eng with gt := some gt }).setSlew (slewComputing x t.prot.holding gt t.slew)
    else t
  | .unprofiled =>
    t.setSlew { t.slew with ga := some (RGB.all 4096), status := some (RGB.all .uncorrected) }
  | .vacant => t
  | .joining => t
  | .lost => t

/-! ## Stage 10 and re-formation -/

/-- The gain a slot's coefficients are formed from (R95, R99, R100): the applied gains of an ACTIVE slot, which stand at the
manual gains where FIXED has taken effect (R109, R113), or 4096; none where the applied gains are absent. -/
def Tile.gain (t : Tile) : Option (RGB Nat) :=
  match t.chain.state with
  | .active => t.slew.ga
  | .unprofiled => some (RGB.all 4096)
  | .vacant => none
  | .joining => none
  | .lost => none

/-- The protection factor the engine uses (R97): 0 while OVERHEAT is active. -/
def Tile.factor (t : Tile) : Nat := if t.prot.overheat.cond then 0 else t.prot.p

/-- x2 of a channel (R96). -/
def dimmedGain (m p g : Nat) : Nat := g * m / 4096 * p / 4096

/-- The undimmed coefficient of a channel (R96). -/
def undimmedCoef (m p g : Nat) : Nat := min 4095 (dimmedGain m p g)

/-- The coefficient of a channel (R96): three successive divisions, each rounded down. -/
def coefficient (m p sb g : Nat) : Nat := min 4095 (dimmedGain m p g * sb / 4096)

/-- One slot's formation from gain `g` (R83, R96): the coefficients become pending, and the record shows what they were formed
from. -/
def placeCoefs (by' : FormedBy) (m sb : Nat) (g : RGB Nat) (t : Tile) : Tile :=
  (t.setChain { t.chain with pending := some (g.map (coefficient m t.factor sb)) }).setEng { t.eng with
    gainsUsed := some g, mUsed := some m, pUsed := some t.factor, sbUsed := some sb, formedBy := some by' }

/-- One slot formed with the held M and Sb where it takes coefficients and has a gain (R95, R100). -/
def formTile (by' : FormedBy) (m sb : Nat) (t : Tile) : Tile :=
  match t.gain with
  | none => t
  | some g => placeCoefs by' m sb g t

/-- One slot's power term (R150): absent for a slot that is handed no coefficients. -/
def termOf (m : Nat) (t : Tile) : Option Nat :=
  t.gain.map fun g => powerTerm t.held.groups.power (t.eng.load.getD 0) (g.map (undimmedCoef m t.factor))

/-- The power term of the latest recomputation noted in the slot's record (R159). -/
def noteTerm (m : Nat) (t : Tile) : Tile := t.setEng { t.eng with powerTerm := termOf m t }

/-- The segment estimate (R150). -/
def estimateOf (m : Nat) (tiles : Table Tile 64) : Nat := (tiles.cells.map fun t => (termOf m t).getD 0).sum

/-- A recomputation, whole (R80 to R98). A budget trip adds COND even where its flags end as they were (R152, R155). -/
def recompute (s : State) : State :=
  let floors := s.showRec.want.map (floorOf s.showRec.floorRatio)
  let number := nextCount s.wall.number
  let tiles := s.tiles.map (stagesTo5 number floors s.protSet.shortReport)
  let wall := wallStages s.showRec floors tiles s.wall
  let tiles := tiles.map (stages8And9 s.slewSet wall.target)
  let ev := s.budget.evaluate (estimateOf s.showRec.m tiles)
  let tiles := tiles.map fun t => formTile .recompute s.showRec.m ev.1.sb (noteTerm s.showRec.m t)
  (((s.setTiles tiles).setWall wall).setBudget ev.1).noticeAll { cond := ev.2 }

/-- Slot `i` re-formed (R99). -/
def reformSlot (i : Slot) (s : State) : State :=
  s.putTile i (formTile .reform s.showRec.m s.budget.sb (s.tile i))

/-- Every ACTIVE and UNPROFILED slot re-formed (R99). -/
def reformAll (s : State) : State :=
  s.setTiles (s.tiles.map (formTile .reform s.showRec.m s.budget.sb))

/-! ## P at the end of an event -/

/-- P of a tile brought up to date, and the slot re-formed where its P or its OVERHEAT condition is not as it was (R134). `was`
is whether OVERHEAT was ACTIVE before the event. -/
def settleTile (m sb : Nat) (was : Bool) (t : Tile) : Tile :=
  let p := protFactor t.prot
  let t' := t.setProt { t.prot with p := p }
  if p != t.prot.p || t.prot.overheat.cond != was then formTile .reform m sb t' else t'

/-- P settled at slot `i` (R134). -/
def settleSlot (before : State) (i : Slot) (s : State) : State :=
  s.putTile i (settleTile s.showRec.m s.budget.sb (before.tile i).prot.overheat.cond (s.tile i))

/-- P settled at every slot, as one re-formation (R134). -/
def settleAll (before : State) (s : State) : State :=
  s.setTiles (s.tiles.mapIdx fun i t =>
    settleTile s.showRec.m s.budget.sb (before.tile i).prot.overheat.cond t)

end Sys2Proof.Machine
end

