-- ==== Sys2Proof/Machine/SweepReports.lean ====
section
/-! DEFINITION. The sweep record: its end, its result, and the reports of its measurements and sense writes (R130, R163, R170,
R171). -/

namespace Sys2Proof.Machine

/-- A sweep is in progress (R163). -/
def SweepRec.inProgress (w : SweepRec) : Bool := w.state != .none

/-- The tile-in-progress fields made absent (R163, R169). -/
def SweepRec.noTile (w : SweepRec) : SweepRec :=
  { w with tile := none, tsense := none, hsense := none, readings := RGB.all none }

/-- The record of a sweep that has ended (R163). Cursor slot and last slot reached, which R163 lists neither among what stays nor among
what becomes absent, stay as the sweep left them (DESIGN CHOICE, log entry 32). -/
def SweepRec.ended (w : SweepRec) : SweepRec := { w.noTile with state := .none }

/-- The result data of a sweep as they stand (R171). -/
def SweepRec.result (w : SweepRec) : ResultData :=
  .sweep w.measured w.failed w.skipped w.passed w.lastReached w.outstanding

/-- The sweep in progress ends on its issuing port and frees the token (R163, R171, R199). -/
def endSweep (v : Verdict) (why : Option Reason) (s : State) : State :=
  match s.sweep.issuer with
  | none => s
  | some p => complete p .sweep v why s.sweep.result ((s.setSweep s.sweep.ended).setToken .free)

/-- A failure report for slot `i` (R130): PROBE becomes ACTIVE with its reason and channel. -/
def failReport (i : Slot) (why : ProbeReason) (c : Option Chan) (s : State) : State :=
  let t := s.tile i
  s.putTile i (t.setProt { t.prot with probe := t.prot.probe.raise, probeReason := some why, probeChan := c })

/-- A success report for slot `i` (R130): PROBE becomes INACTIVE, its reason and channel stay. -/
def successReport (i : Slot) (s : State) : State :=
  let t := s.tile i
  s.putTile i (t.setProt { t.prot with probe := t.prot.probe.clear })

/-- The slot a sense write was handed for still holds the write's serial and is not VACANT (R170). -/
def SenseWrite.reaches (w : SenseWrite) (s : State) : Bool :=
  (s.tile w.slot).present && (s.tile w.slot).chain.serial == some w.serial

/-- The report's part in PROBE (R170). -/
def reportProbe (w : SenseWrite) (ok : Bool) (s : State) : State :=
  if w.reaches s then (if ok then successReport w.slot s else failReport w.slot .noProfile none s) else s

/-- The report's part in the tallies of its own sweep, while that is in progress (R170). -/
def reportTally (w : SenseWrite) (ok : Bool) (s : State) : State :=
  if s.sweep.inProgress && s.sweep.id == w.sweepId then
    s.setSweep { s.sweep with
      measured := if ok then s.sweep.measured + 1 else s.sweep.measured
      failed := if ok then s.sweep.failed else s.sweep.failed + 1
      outstanding := s.sweep.outstanding - 1 }
  else s

/-- A WAITING sweep with no write outstanding completes DONE (R171). -/
def sweepDoneIfWaiting (s : State) : State :=
  if s.sweep.state = .waiting ∧ s.sweep.outstanding = 0 then endSweep .done none s else s

/-- The store's report of a sense write, made once (R170). -/
def reportSense (w : SenseWrite) (ok : Bool) (s : State) : State :=
  sweepDoneIfWaiting (reportTally w ok (reportProbe w ok s))

end Sys2Proof.Machine
end

