-- ==== Sys2Proof/Machine/StoreUnit.lean ====
section
/-! DEFINITION. The store: the beginning and completion of a write, the sense-write queue, a write cut off by a hard reset, and
startup verification (R26 to R31, R51, R57). -/

namespace Sys2Proof.Machine

/-- The store is WRITING (R25). -/
def Store.writing (st : Store) : Bool := st.write.isSome

/-- A write begins (R26). -/
def beginWrite (op : WriteOp) (issuer : Option Port) (s : State) : State :=
  s.setStore { s.store with write := some ⟨op, issuer⟩ }

/-- The target of a sense write holds a TILE record carrying its serial (R28). -/
def Store.senseFits (st : Store) (w : SenseWrite) : Bool :=
  match st.profile w.index with
  | some r => r.kind == .tile && r.serial == some w.serial
  | none => false

/-- The sense writes of `ws` reach the store (R26, R28): each that does not fit is skipped and reported, the first that fits
begins, and the store becomes IDLE where none does. -/
def startQueue : (ws : List SenseWrite) → State → State
  | [], s => s.setStore { s.store with write := none, queue := [] }
  | w :: ws, s =>
    if s.store.senseFits w then s.setStore { s.store with write := some ⟨.senseWrite w, none⟩, queue := ws }
    else startQueue ws (reportSense w false s)

/-- The sweep hands over a sense write (R28): it begins at once in an IDLE store with an empty queue, else joins the tail. -/
def handSenseWrite (w : SenseWrite) (s : State) : State :=
  if s.store.writing || !s.store.queue.isEmpty then s.setStore { s.store with queue := s.store.queue ++ [w] }
  else startQueue [w] s

/-- The profile index a write targets. -/
def WriteOp.profileIndex : WriteOp → Option Nat
  | .putProfile k _ => some k
  | .dropProfile k => some k
  | .senseWrite w => some w.index
  | .putMap _ _ => none
  | .clearMap => none

/-- Step 1 of a completion (R29): the target takes its new content. A sense write replaces the record's sense set (R28). -/
def WriteOp.apply (op : WriteOp) (st : Store) : Store :=
  match op with
  | .putProfile k r => st.putCell k (.good r)
  | .dropProfile k => st.putCell k .empty
  | .senseWrite w =>
    match st.profile w.index with
    | some r => st.putCell w.index (.good { r with sense := some w.sense })
    | none => st
  | .putMap x c => { st with map := st.map.put x.number (cellOf c) }
  | .clearMap => { st with map := Table.fill 256 .empty }

/-- The inverse after a completed write (R51). -/
def WriteOp.inverse (op : WriteOp) (st : Store) (inv : Table (Option Pos) 64) : Table (Option Pos) 64 :=
  match op with
  | .putMap x c => inverseAfterPut inv x (st.entry x) c
  | .clearMap => Table.fill 64 none
  | .putProfile _ _ => inv
  | .dropProfile _ => inv
  | .senseWrite _ => inv

/-- Step 2 of a completion (R29, R45). -/
def resolveAfter (op : WriteOp) (s : State) : State :=
  match op.profileIndex with
  | some k => reresolveAll k s
  | none => s

/-- Step 5 of a completion (R29): the request completes DONE with its result data, or the sweep is told. `before` is the state
before the completion. -/
def WriteOp.report (op : WriteOp) (issuer : Option Port) (before s : State) : State :=
  match op, issuer with
  | .senseWrite w, _ => reportSense w true s
  | .putProfile k _, some p => finish p .putProfile (.putProfile k (slotBoundTo s k)) s
  | .dropProfile k, some p => finish p .dropProfile (.dropProfile k (slotBoundTo before k)) s
  | .putMap x c, some p => finish p .putMap (.putMap x (before.store.entry x) c) s
  | .clearMap, some p => finish p .clearMap (.clearMap before.store.mapped) s
  | .putProfile _ _, none => s
  | .dropProfile _, none => s
  | .putMap _ _, none => s
  | .clearMap, none => s

/-- A store write completes: the five steps of R29, and then the next queued sense write (R26). -/
def completeWrite (w : StoreWrite) (s : State) : State :=
  let s1 := (s.setStore (w.op.apply s.store)).setInverse (w.op.inverse s.store s.inverse)
  let s2 := resolveAfter w.op s1
  let s3 := retryWaiting s2
  let s4 := s3.noticeAll { store := true }
  let s5 := w.op.report w.issuer s s4
  startQueue s5.store.queue s5

/-! ## Hard reset -/

/-- One map entry cut off (R30). -/
def cutEntry (c : CutOutcome) (old new : MapCell) : MapCell :=
  match c with
  | .old => old
  | .new => new
  | .failing => .failing

/-- The store after a write in flight was cut off (R30): `cut` says how far it had gone at each of its targets. -/
def WriteOp.cutOff (op : WriteOp) (cut : List CutOutcome) (st : Store) : Store :=
  let c := cut.getD 0 .old
  match op with
  | .putMap x _ =>
    { st with map := st.map.put x.number (cutEntry c (st.map.get x.number) ((op.apply st).map.get x.number)) }
  | .clearMap => { st with map := st.map.mapIdx fun n old => cutEntry (cut.getD n.val .old) old .empty }
  | .putProfile k _ =>
    match c with
    | .old => st
    | .new => op.apply st
    | .failing => st.putCell k .failing
  | .dropProfile k =>
    match c with
    | .old => st
    | .new => op.apply st
    | .failing => st.putCell k .failing
  | .senseWrite w =>
    match c with
    | .old => st
    | .new => op.apply st
    | .failing => st.putCell w.index .failing

/-- The store in its hard-reset state, before verification (R30, R49). -/
def Store.hardReset (cut : List CutOutcome) (st : Store) : Store :=
  let st := match st.write with
    | some w => w.op.cutOff cut st
    | none => st
  { profiles := st.profiles, map := st.map }

/-- A profile record that fails its check is discarded (R31). -/
def ProfileCell.verified : ProfileCell → ProfileCell
  | .empty => .empty
  | .good r => .good r
  | .failing => .empty

/-- A map entry that fails its check becomes EMPTY (R31). -/
def MapCell.verified : MapCell → MapCell
  | .empty => .empty
  | .slot i => .slot i
  | .failing => .empty

/-- Startup verification (R31): the loss fields are set from it alone. -/
def Store.verify (st : Store) : Store :=
  { st with
    profiles := st.profiles.map ProfileCell.verified
    map := st.map.map MapCell.verified
    profileLosses := st.profiles.count (· == .failing)
    mapLosses := st.map.count (· == .failing)
    lost := st.profiles.entries.filterMap fun x => if x.2 == .failing then some (x.1.val + 1) else none }

end Sys2Proof.Machine
end

