-- ==== Sys2Proof/Machine/SweepSteps.lean ====
section
/-! DEFINITION. The sweep sequencer's probe steps: choosing a tile-channel, ranges, finishing a tile, and winding a step down
(R164 to R174). -/

namespace Sys2Proof.Machine

/-! ## Choosing what to measure -/

/-- The next requested channel of the tile in progress that has no reading (R168). -/
def SweepRec.nextChan (w : SweepRec) : Option Chan :=
  match w.params with
  | none => none
  | some p => Chan.order.find? fun c => p.chans.get c && (w.readings.get c).isNone

/-- The last requested channel, in R, G, B order (R169). -/
def SweepRec.lastChan (w : SweepRec) : Option Chan :=
  match w.params with
  | none => none
  | some p => Chan.order.reverse.find? fun c => p.chans.get c

/-- An ACTIVE slot that a sweep skips (R164): OVERHEAT active, Teff absent, or a partial channel set with no sense set to take
the other channels from. -/
def skipped (chans : RGB Bool) (t : Tile) : Bool :=
  t.prot.overheat.cond || t.temp.teff.isNone || (!chans.every id && t.held.groups.sense.isNone)

/-- Slot `i` is dealt with: last slot reached and the cursor move on (R164). -/
def SweepRec.reach (w : SweepRec) (i : Slot) : SweepRec :=
  { w with lastReached := some i, cursor := some (i.val + 1) }

/-- Slot `i` becomes the tile in progress, with its Teff and lit hours captured (R164). -/
def SweepRec.beginTile (w : SweepRec) (i : Slot) (t : Tile) : SweepRec :=
  { w.reach i with
    tile := some i
    tsense := t.temp.teff
    hsense := some (t.eng.hours.getD 0)
    readings := RGB.all none }

/-- The slots of `is` are dealt with in order up to the first that is measured (R164). The answer is the sweep record and that
slot; where none can be measured the cursor becomes 64. -/
def scanSlots (tiles : Table Tile 64) (chans : RGB Bool) : (is : List Slot) → SweepRec → SweepRec × Option Slot
  | [], w => ({ w with cursor := some 64 }, none)
  | i :: is, w =>
    let t := tiles.get i
    if t.chain.state ≠ .active then
      scanSlots tiles chans is { w.reach i with passed := w.passed + 1 }
    else if skipped chans t then
      scanSlots tiles chans is { w.reach i with skipped := w.skipped + 1 }
    else (w.beginTile i t, some i)

/-- The slots from the cursor up to the last slot. -/
def SweepRec.ahead (w : SweepRec) : List Slot :=
  match w.params with
  | none => []
  | some p => slots.filter fun i => decide (w.cursor.getD 0 ≤ i.val) && decide (i ≤ p.last)

/-- The tile in progress fails (R165, R169): its report, its tally, and the tile in progress becomes absent. -/
def failTile (i : Slot) (why : ProbeReason) (c : Option Chan) (s : State) : State :=
  let s := failReport i why c s
  s.setSweep { s.sweep.noTile with failed := s.sweep.failed + 1 }

/-- The range is finished (R164, R171): DONE where no write is outstanding, else WAITING. -/
def finishRange (s : State) : State :=
  if s.sweep.outstanding = 0 then endSweep .done none s
  else s.setSweep { s.sweep with state := .waiting }

/-- A probe step goes on from the cursor slot (R164): a PATCH is sent for the first tile that can be measured, or the range is
finished and no frame is sent. -/
def probeFromCursor (s : State) : State :=
  match s.sweep.params with
  | none => s
  | some p =>
    let r := scanSlots s.tiles p.chans s.sweep.ahead s.sweep
    let s := s.setSweep r.1
    match r.2, r.1.nextChan with
    | some i, some c => s.setActivity (.patch i c)
    | _, _ => finishRange s

/-- A probe step begins (R164, R165). It sends a PATCH, or no frame at all. -/
def probeStep (s : State) : State :=
  match s.sweep.tile with
  | none => probeFromCursor s
  | some i =>
    let t := s.tile i
    if t.chain.state = .active ∧ t.chain.bound ≠ 0 then
      if t.prot.overheat.cond then
        probeFromCursor (s.setSweep { s.sweep.noTile with skipped := s.sweep.skipped + 1 })
      else
        match s.sweep.nextChan with
        | some c => s.setActivity (.patch i c)
        | none => probeFromCursor (s.setSweep s.sweep.noTile)
    else if t.chain.state = .lost then probeFromCursor (failTile i .noReply s.sweep.nextChan s)
    else probeFromCursor (failTile i .noProfile none s)

/-! ## The frames of a probe step -/

/-- A probe step is under way: PATCH, settle, SENSE or PATCH OFF. -/
def Activity.probing : Activity → Bool
  | .patch _ _ => true
  | .settle _ _ => true
  | .sense _ _ _ => true
  | .patchOff _ _ _ _ => true
  | .idle => false
  | .enum _ => false
  | .poll _ => false
  | .adopt _ => false
  | .push _ _ => false

/-- A probe step of the sweep in progress is under way. -/
def ownProbe (s : State) : Bool := s.sweep.inProgress && s.chain.activity.probing && !s.chain.windDown

/-- An ABORT has been taken for the sweep in progress and its stopping point has not yet come (R172). -/
def sweepAborting (s : State) : Bool :=
  match s.sweep.issuer with
  | none => false
  | some p => s.sweep.inProgress && (s.port p).abortRequested

/-- The probe step is to end with its measurement discarded: its sweep has ended, or is being aborted (R172, R173, R174). -/
def discarding (s : State) : Bool := s.chain.windDown || sweepAborting s

/-- PATCH OFF is sent (R166 step 5); a step whose measurement is discarded keeps nothing of it. -/
def sendPatchOff (i : Slot) (c : Chan) (r : Nat) (e : ProbeEnd) (s : State) : State :=
  s.setActivity (.patchOff i c r (if discarding s then .discarded else e))

/-- The class of a SENSE count (R167). -/
inductive CountClass where
  | under
  | ok
  | over
  deriving DecidableEq, Repr

/-- Below 256 UNDER, 256..4094 OK, 4095 OVER (R167). -/
def classOf (count : Nat) : CountClass :=
  if count < 256 then .under else if count < 4095 then .ok else .over

/-- A count at a range as luminance (R168). -/
def luminanceOf (count range : Nat) : Nat := count * 16 / 4 ^ range

/-- What the sequencer does with a SENSE reply of class `k` at range `r` (R167): the next range, or the end of the channel. -/
def senseEnd (k : CountClass) (r : Nat) : Option ProbeEnd :=
  match k with
  | .ok => some .accepted
  | .under => if r < 3 then none else some (.failed .under)
  | .over => if r = 0 then some (.failed .over) else some (.failed .unstable)

/-- A SENSE reply for slot `i`, channel `c`, range `r` (R167, R168, R172). -/
def senseReplied (i : Slot) (c : Chan) (r count : Nat) (s : State) : State :=
  if discarding s then sendPatchOff i c r .discarded s
  else
    match senseEnd (classOf count) r with
    | none => s.setActivity (.sense i c (r + 1))
    | some .accepted =>
      sendPatchOff i c r .accepted
        (s.setSweep { s.sweep with readings := s.sweep.readings.put c (some (luminanceOf count r)) })
    | some e => sendPatchOff i c r e s

/-! ## Finishing a tile -/

/-- The sense set of a finished tile (R169): requested channels from this sweep, the others from the working profile's sense
set, none where it no longer holds one. -/
def formSense (w : SweepRec) (chans : RGB Bool) (old : Option SenseSet) : Option SenseSet :=
  let t := w.tsense.getD 0
  let h := w.hsense.getD 0
  let read (c : Chan) := (w.readings.get c).getD 0
  if chans.every id then some ⟨⟨read .r, read .g, read .b⟩, t, h⟩
  else old.map fun o =>
    let pick (c : Chan) := if chans.get c then read c else o.lsense.get c
    ⟨⟨pick .r, pick .g, pick .b⟩, t, h⟩

/-- A tile whose requested channels have all been accepted is handed over to the store, or fails (R169). -/
def handOver (i : Slot) (s : State) : State :=
  let t := s.tile i
  match s.sweep.params with
  | none => s
  | some p =>
    if t.chain.state = .lost then failTile i .noReply s.sweep.lastChan s
    else if t.chain.state ≠ .active ∨ t.chain.bound = 0 then failTile i .noProfile none s
    else
      match formSense s.sweep p.chans t.held.groups.sense with
      | none => failTile i .noProfile none s
      | some x =>
        let w : SenseWrite := ⟨t.chain.bound, t.chain.serial.getD 0, x, i, s.sweep.id⟩
        handSenseWrite w (s.setSweep { s.sweep.noTile with outstanding := s.sweep.outstanding + 1 })

/-- What the end of a probe step does to the sweep (R168, R169, R172, R173): nothing where the sweep had ended, the aborted end
where an ABORT waits for it, else the outcome of the channel. -/
def settleProbe (i : Slot) (c : Chan) (e : ProbeEnd) (s : State) : State :=
  if s.chain.windDown then s.setChain { s.chain with windDown := false }
  else if sweepAborting s then endSweep .aborted (some .byPort) s
  else
    match e with
    | .accepted => if s.sweep.nextChan.isSome then s else handOver i s
    | .failed .noProfile => failTile i .noProfile none s
    | .failed why => failTile i why (some c) s
    | .discarded => s

/-! ## Ending a sweep from outside -/

/-- The sweep in progress ends at once (R172 to R174); a probe step of its own that is under way is wound down, a settle wait
being cut short. -/
def cutSweep (v : Verdict) (why : Option Reason) (s : State) : State :=
  if ownProbe s then
    let s := s.setChain { s.chain with windDown := true }
    let s := match s.chain.activity with
      | .settle i c => s.setActivity (.patchOff i c 0 .discarded)
      | _ => s
    endSweep v why s
  else endSweep v why s

/-- An ABORT of the sweep on port `p` (R172): at once between probe steps and in WAITING, else at the stopping point. -/
def abortSweep (p : Port) (s : State) : State :=
  if ownProbe s then s.putPort p { s.port p with abortRequested := true }
  else endSweep .aborted (some .byPort) s

/-- The record of a sweep just accepted (R162). -/
def SweepRec.accepted (w : SweepRec) (p : Port) (x : SweepParams) : SweepRec :=
  { state := .running, issuer := some p, params := some x, cursor := some x.first.val, id := w.id + 1 }

end Sys2Proof.Machine
end

