-- ==== Sys2Proof/Machine/Temperature.lean ====
section
/-! DEFINITION. The temperature unit: one arrival of a POLL reply (R64 to R72), and the conditions judged on it (R125 to
R127). -/

namespace Sys2Proof.Machine

/-- The own reading is valid (R64): not NONE, no sensor fault, within -40..125. -/
def readingValid (temp : Option Int) (fault : Bool) : Bool :=
  match temp with
  | none => false
  | some t => !fault && decide (-40 ≤ t) && decide (t ≤ 125)

/-- Step 1 of an arrival (R64). -/
def takeReading (temp : Option Int) (fault : Bool) (r : TempRec) : TempRec :=
  { r with
    own := match temp with | none => .none | some t => .value t
    fault := some fault
    ownValid := readingValid temp fault }

/-- A tile's last own reading, where it is valid. -/
def TempRec.validReading (r : TempRec) : Option Int :=
  match r.ownValid, r.own with
  | true, .value t => some t
  | _, _ => none

/-- The direction a source names. -/
def Source.direction : Source → Option Direction
  | .north => some .north
  | .east => some .east
  | .south => some .south
  | .west => some .west
  | .own => none
  | .ambient => none
  | .fixed => none

/-- A temperature a source gives, and the slot that lends it. -/
structure Sample where
  temp : Int
  lending : Option Slot
  deriving DecidableEq, Repr

/-- The temperature a neighbour lends (R67, R68): the slot found is ACTIVE and its own valid is set. -/
def borrowed (s : State) (i : Slot) (d : Direction) : Option Sample :=
  match neighbour s i d with
  | .slot n =>
    if (s.tile n).chain.state = .active then (s.tile n).temp.validReading.map fun t => ⟨t, some n⟩ else none
  | .unmapped => none
  | .edge => none
  | .empty => none

/-- What source `x` gives slot `i` at an arrival, none where it is unavailable (R67). -/
def sourceGives (s : State) (i : Slot) (x : Source) : Option Sample :=
  match x with
  | .own => (s.tile i).temp.validReading.map fun t => ⟨t, none⟩
  | .ambient => s.showRec.ambient.map fun t => ⟨t, none⟩
  | .fixed => some ⟨(s.tile i).held.groups.tempSource.fixed, none⟩
  | .north => borrowed s i .north
  | .east => borrowed s i .east
  | .south => borrowed s i .south
  | .west => borrowed s i .west

/-- A source selected at an arrival. -/
structure Selection where
  source : Source
  role : Role
  sample : Sample
  deriving DecidableEq, Repr

/-- The primary if it is available, else the fallback if that is, else none (R69). -/
def selectSource (s : State) (i : Slot) : Option Selection :=
  let g := (s.tile i).held.groups.tempSource
  match sourceGives s i g.primary with
  | some x => some ⟨g.primary, .primary, x⟩
  | none => (sourceGives s i g.fallback).map fun x => ⟨g.fallback, .fallback, x⟩

/-- The source in use that a selection gives. -/
def inUse : Option Selection → SourceInUse
  | none => .none
  | some x => .source x.source

/-- The record after a selection: source, role and lending slot, and the accumulator emptied where the source in use changed
from that of the previous arrival (R69). -/
def applySelection (sel : Option Selection) (r : TempRec) : TempRec :=
  let r := if r.source ≠ .absent ∧ r.source ≠ inUse sel then { r with sum := 0, count := 0 } else r
  { r with
    source := inUse sel
    role := sel.map (·.role)
    lending := sel.bind (·.sample.lending) }

/-- A sample taken: it seeds Teff, or enters the block of 2^w samples (R71, R72). The answer says whether Teff was written. -/
def takeSample (w : Nat) (t : Int) (r : TempRec) : TempRec × Bool :=
  match r.teff with
  | none => ({ r with lastSample := some t, teff := some t }, true)
  | some _ =>
    let sum := r.sum + t
    let count := r.count + 1
    if count = 2 ^ w then
      ({ r with
          lastSample := some t
          teff := some (if w = 0 then t else divDown (sum + (2 ^ (w - 1) : Nat)) (2 ^ w))
          sum := 0
          count := 0 }, true)
    else ({ r with lastSample := some t, sum := sum, count := count }, false)

/-- OVERHEAT judged on a valid raw reading (R126): its BLANK goes with the condition. -/
def judgeOverheat (x : TempSettings) (t : Int) (r : ProtRec) : ProtRec :=
  let now := hysteresis r.overheat.cond t x.tripLimit (x.tripLimit - x.hysteresis)
  { r with
    overheat := if now then r.overheat.raise else r.overheat.clear
    overheatBlank := now }

/-- SENSOR judged at an arrival (R70, R127, R131). -/
def judgeSensor (c : ClassSettings) (noSource : Bool) (r : ProtRec) : ProtRec :=
  let x := evalClass c noSource r.sensor r.sensorAct
  { r with sensor := x.1, sensorAct := x.2 }

/-- HOT judged on a new Teff (R74, R125, R131). -/
def judgeHot (c : ClassSettings) (x : TempSettings) (teff : Int) (r : ProtRec) : ProtRec :=
  let now := hysteresis r.hot.cond teff x.hotLimit (x.hotLimit - x.hysteresis)
  let y := evalClass c now r.hot r.hotAct
  { r with hot := y.1, hotAct := y.2 }

/-- Steps 1 and 2 of an arrival at slot `i`, with the lit hours and load of R75. -/
def arrivalReading (i : Slot) (temp : Option Int) (fault : Bool) (hours load : Nat) (s : State) : State :=
  let t := s.tile i
  let r := takeReading temp fault t.temp
  let prot := match r.validReading with
    | some v => judgeOverheat s.tempSet v t.prot
    | none => t.prot
  s.putTile i (((t.setEng { t.eng with hours := some hours, load := some load }).setTemp r).setProt prot)

/-- Steps 3 to 5 of an arrival at slot `i` with the selection made. -/
def arrivalSample (i : Slot) (sel : Option Selection) (s : State) : State :=
  let t := s.tile i
  let r := applySelection sel t.temp
  let prot := judgeSensor s.protSet.sensor sel.isNone t.prot
  match sel with
  | none => s.putTile i ((t.setTemp r).setProt prot)
  | some x =>
    let y := takeSample s.tempSet.w x.sample.temp r
    let prot := match y.2, y.1.teff with
      | true, some v => judgeHot s.protSet.hot s.tempSet v prot
      | _, _ => prot
    s.putTile i ((t.setTemp y.1).setProt prot)

/-- One arrival, the five steps of R65. -/
def arrival (i : Slot) (temp : Option Int) (fault : Bool) (hours load : Nat) (s : State) : State :=
  let s := arrivalReading i temp fault hours load s
  arrivalSample i (selectSource s i) s

end Sys2Proof.Machine
end

