-- ==== Sys2Proof/WellFormed.lean ====
section
/-! DEFINITION. Which terms of `Instr` stand for a command the part can meet: the fields of a reply lie in the ranges of
R7's table, and the code of an unknown request names no request (R203). -/

namespace Sys2Proof

/-- A temperature field carries -128..127 or NONE (R64). -/
def tempFieldOk : Option Int → Bool
  | none => true
  | some t => decide (-128 ≤ t) && decide (t ≤ 127)

/-- Echo fields carry coefficients 0..4095 (R7, R96). -/
def coefFieldOk (c : RGB Nat) : Bool := c.every fun x => decide (x ≤ 4095)

/-- The fields of a POLL reply lie in their ranges (R7, R75). -/
def pollReplyOk (temp : Option Int) (hours load : Nat) (echo : RGB Nat) : Bool :=
  tempFieldOk temp && decide (hours ≤ 16777215) && decide (load ≤ 255) && coefFieldOk echo

/-- The count of a SENSE reply lies in 0..4095 (R7). -/
def senseCountOk (count : Nat) : Bool := decide (count ≤ 4095)

/-- The codes 1..19 name requests (R203). -/
def requestCodeNamed (code : Byte) : Bool := decide (1 ≤ code.toNat) && decide (code.toNat ≤ 19)

/-- A command the part can meet. -/
def Instr.wf : Instr → Bool
  | .pollReply temp _ hours load echo => pollReplyOk temp hours load echo
  | .pushReply echo => coefFieldOk echo
  | .senseReply _ count => senseCountOk count
  | .unknownRequestPost _ code _ => !requestCodeNamed code
  | .hardReset _ _ => true
  | .status _ => true
  | .read _ _ _ _ => true
  | .result _ => true
  | .abort _ => true
  | .discardedTransaction _ => true
  | .claim _ _ => true
  | .release _ _ => true
  | .setShow _ _ => true
  | .freeze _ _ => true
  | .thaw _ _ => true
  | .setBudget _ _ => true
  | .putProfile _ _ => true
  | .dropProfile _ _ => true
  | .putMap _ _ => true
  | .clearMap _ _ => true
  | .setTrack _ _ => true
  | .setSlew _ _ => true
  | .setTemp _ _ => true
  | .setProtect _ _ => true
  | .clearFaults _ _ => true
  | .sweep _ _ => true
  | .relearn _ _ => true
  | .restartChain _ _ => true
  | .setNotice _ _ => true
  | .roundStart => true
  | .relearnEnumerationStart => true
  | .pollMiss => true
  | .pushMiss => true
  | .adoptReply _ => true
  | .adoptNoReply => true
  | .enumReply _ => true
  | .enumNoReply => true
  | .patchReply => true
  | .patchMiss => true
  | .settleWaitEnd => true
  | .senseMiss => true
  | .storeWriteComplete => true
  | .livenessTimerExpiry _ => true
  | .retryTimerExpiry _ _ => true
  | .resetnRelease => true

end Sys2Proof
end

