-- ==== Sys2Proof/Machine/Chain.lean ====
section
/-! DEFINITION. The chain controller: rounds, replies and misses, LOST slots and their return, adoption, and enumeration (R3 to
R22). -/

namespace Sys2Proof.Machine

/-! ## The slot's own transitions -/

/-- Any valid reply from a slot's tile sets its miss count to 0 (R9). -/
def Tile.answered (t : Tile) : Tile := t.setChain { t.chain with missCount := 0 }

/-- The former state a slot records on becoming LOST; none where it cannot become LOST (R13). -/
def SlotState.former : SlotState → Option FormerState
  | .joining => some .joining
  | .active => some .active
  | .unprofiled => some .unprofiled
  | .vacant => none
  | .lost => none

/-- The state a former state names. -/
def FormerState.state : FormerState → SlotState
  | .joining => .joining
  | .active => .active
  | .unprofiled => .unprofiled

/-- A slot becomes LOST (R13), and so does its LOST condition (R128). Its engine record stands (R83), the contributing flag
included; READ shows that flag clear for a LOST slot from then on (R103), as `engineItems` says (log entry 34). -/
def becomeLost (f : FormerState) (t : Tile) : Tile :=
  (t.setChain { t.chain with state := .lost, former := some f, answering := false }).setProt
    { t.prot with lost := t.prot.lost.raise }

/-- A LOST slot returns to its former state (R14, R16), and LOST becomes INACTIVE (R128). -/
def returnFromLost (t : Tile) : Tile :=
  match t.chain.former with
  | none => t
  | some f =>
    (t.setChain { t.chain with state := f.state, former := none, answering := false }).setProt
      { t.prot with lost := t.prot.lost.clear }

/-- A LOST slot whose tile has answered: it returns under AUTO, and its answering flag is set under ON-CLEAR (R14, R15, R20). -/
def lostAnswered (policy : LostPolicy) (t : Tile) : Tile :=
  match policy with
  | .auto => returnFromLost t
  | .onClear => t.setChain { t.chain with answering := true }

/-- A miss counted at a slot (R9, R13). -/
def countMiss (limit : Nat) (t : Tile) : Tile :=
  let n := min 15 (t.chain.missCount + 1)
  let t := t.setChain { t.chain with missCount := n }
  match t.chain.state.former with
  | some f => if limit ≤ n then becomeLost f t else t
  | none => if t.chain.state = .lost then t.setChain { t.chain with answering := false } else t

/-- A miss at slot `i` with the miss limit held. -/
def missAt (i : Slot) (s : State) : State := s.putTile i (countMiss s.chain.missLimit (s.tile i))

/-- A valid reply from slot `i`. -/
def answeredAt (i : Slot) (s : State) : State := s.putTile i (s.tile i).answered

/-! ## The round -/

/-- A slot the push phase sends a PUSH (R5). -/
def Tile.pushes (t : Tile) : Bool :=
  t.formed && t.chain.pending.isSome && t.chain.confirmed != t.chain.pending

/-- The push phase goes on from slot number `k` (R5), or ends. A slot is judged when it is reached, so one that a CLEAR-FAULTS has returned
in the running push phase, and that is not yet reached, is pushed in that phase: R16's next push phase is read as the next that
reaches the slot (DEDUCED, log entry 36). -/
def pushFrom (k : Nat) (s : State) : State :=
  match slots.find? fun i => decide (k ≤ i.val) && (s.tile i).pushes with
  | some i => s.setActivity (.push i ((s.tile i).chain.pending.getD (RGB.all 0)))
  | none => s.setActivity .idle

/-- The poll phase completes: the engine recomputes and the push phase begins (R4, R80). -/
def completePollPhase (s : State) : State := pushFrom 0 (recompute s)

/-- The probe step of a round (R4): of a RUNNING sweep, else empty. The phase completes where it sends no frame. -/
def probePhase (s : State) : State :=
  if s.sweep.state = .running then
    let s := probeStep (s.setActivity .idle)
    if s.chain.activity.probing then s else completePollPhase s
  else completePollPhase s

/-- A slot of the adopt cycle: LOST with the answering flag clear (R18). -/
def Tile.adoptable (t : Tile) : Bool := t.chain.state == .lost && !t.chain.answering

/-- The slot the adopt step picks: the lowest of the cycle above the cursor, else the lowest of all (R18). -/
def pickAdopt (s : State) : Option Slot :=
  (slots.find? fun i => decide (s.chain.adoptCursor < i) && (s.tile i).adoptable).or
    (slots.find? fun i => (s.tile i).adoptable)

/-- The adopt step of a round (R4, R18). -/
def adoptPhase (s : State) : State :=
  match pickAdopt s with
  | some i => s.setChain { s.chain with adoptCursor := i, activity := .adopt i }
  | none => probePhase s

/-- The poll phase goes on from slot number `k` (R4). -/
def pollFrom (k : Nat) (s : State) : State :=
  match slots.find? fun i => decide (k ≤ i.val) && (s.tile i).present with
  | some i => s.setActivity (.poll i)
  | none => adoptPhase s

/-- A RELEARN is in progress, waiting or enumerating. -/
def State.relearning (s : State) : Bool :=
  match s.token with
  | .relearn _ => true
  | .free => false
  | .sweep _ => false

/-- A round can start (R3, R20): no round and no RELEARN is in progress, and RESETn is not low. -/
def canStartRound (s : State) : Bool :=
  !s.inReset && s.chain.activity == .idle && !s.relearning

/-- A round starts: its timer starts, and the first POLL is sent (R3, R4). -/
def startRound (s : State) : State :=
  pollFrom 0 (s.setChain { s.chain with roundTimer := some 0, startNow := false })

/-! ## Replies and misses -/

/-- The chain controller's part of a POLL reply before the telemetry is handed on (R10). -/
def pollConfirm (echo : RGB Nat) (t : Tile) : Tile :=
  let c := t.chain
  t.setChain { c with
    missCount := 0
    polled := c.polled || c.state != .lost
    confirmed := some echo }

/-- The state change a POLL reply causes, if any (R10, R12, R14). Entry to ACTIVE is a new bind (R115). -/
def pollState (policy : LostPolicy) (t : Tile) : Tile :=
  match t.chain.state with
  | .joining =>
    if t.chain.bound = 0 then t
    else (t.setChain { t.chain with state := .active }).setSlew { t.slew with firstSet := true }
  | .lost => lostAnswered policy t
  | .vacant => t
  | .active => t
  | .unprofiled => t

/-- A valid POLL reply from slot `i`, up to the settling of P (R10, R134). -/
def pollReplied (i : Slot) (temp : Option Int) (fault : Bool) (hours load : Nat) (echo : RGB Nat) (s : State) : State :=
  let s1 := s.putTile i (pollConfirm echo (s.tile i))
  let s2 := arrival i temp fault hours load s1
  let s3 := s2.putTile i (pollState s2.protSet.lostPolicy (s2.tile i))
  settleSlot s i s3

/-- A valid PUSH reply from slot `i` (R11). -/
def pushReplied (i : Slot) (echo : RGB Nat) (s : State) : State :=
  let t := s.tile i
  s.putTile i (t.setChain { t.chain with missCount := 0, confirmed := some echo })

/-- A slot entered through ADOPT with a new serial: a fresh start, confirmed coefficients (0, 0, 0), and binding at once (R12,
R15). -/
def joinByAdopt (i : Slot) (serial : Serial) (s : State) : State :=
  tryBind i (s.putTile i (joinFresh serial (some (RGB.all 0))))

/-- A valid ADOPT reply for slot `i` (R15). -/
def adoptReplied (i : Slot) (serial : Serial) (s : State) : State :=
  let t := s.tile i
  if t.chain.serial = some serial then
    let t := t.setChain { t.chain with missCount := 0, confirmed := some (RGB.all 0) }
    s.putTile i (lostAnswered s.protSet.lostPolicy t)
  else joinByAdopt i serial s

/-- The end of a probe step: the sweep's part, and the poll phase completes (R4, R166). -/
def endProbeStep (i : Slot) (c : Chan) (e : ProbeEnd) (s : State) : State :=
  completePollPhase (settleProbe i c e s)

/-! ## Enumeration -/

/-- The RELEARN has an ABORT that waits for its stopping point (R22). -/
def relearnAborting (s : State) : Bool :=
  match s.token with
  | .relearn (some p) => (s.port p).abortRequested
  | .relearn none => false
  | .free => false
  | .sweep _ => false

/-- The RELEARN ends: a job of a port completes there, and the token is freed (R21, R22, R23). -/
def endRelearn (v : Verdict) (why : Option Reason) (d : ResultData) (s : State) : State :=
  let s := match s.token with
    | .relearn (some p) => complete p .relearn v why d s
    | _ => s
  s.setToken .free

/-- The chain controller is idle after an enumeration, and the next round starts at once (R21, R22). -/
def leaveEnumeration (s : State) : State :=
  s.setChain { s.chain with activity := .idle, startNow := true }

/-- ENUM 0 is sent (R20): no round runs until the RELEARN ends. -/
def sendEnum0 (s : State) : State :=
  s.setChain { s.chain with activity := .enum 0, roundTimer := none, startNow := false }

/-- The enumeration is complete with `n` tiles: the length flag, binding, the tile count, and DONE (R21). -/
def completeEnumeration (n : Nat) (long : Bool) (s : State) : State :=
  let s := s.setChain { s.chain with chainLong := long }
  let s := s.noticeAll { cond := long }
  let s := bindEnumerated 64 s
  let s := s.setChain { s.chain with tileCount := n }
  endRelearn .done none (.relearn n) (leaveEnumeration s)

/-- The enumeration is aborted after the slots below `n` were reached (R22). -/
def abortEnumeration (n : Nat) (s : State) : State :=
  endRelearn .aborted (some .byPort) .nothing (leaveEnumeration (bindEnumerated n s))

/-- A tile that answered ENUM `i` (R20). -/
def enumTile (policy : LostPolicy) (serial : Serial) (t : Tile) : Tile :=
  if t.chain.state ≠ .vacant ∧ t.chain.serial = some serial then
    if t.chain.state = .lost then lostAnswered policy t else t
  else joinFresh serial none

/-- The slots from number `n` up become VACANT (R20). -/
def vacateFrom (n : Nat) (s : State) : State :=
  s.setTiles (s.tiles.mapIdx fun i t => if n ≤ i.val then {} else t)

/-- A valid reply to ENUM `n` (R20, R21, R22). ENUM 64 is the length check, after which the RELEARN can no longer be aborted. The
slot's own change is noticed before an ABORT ends the job and the slots are bound: a slot that passes from UNPROFILED through
JOINING back to UNPROFILED in one event has changed its state (R19). -/
def enumReplied (n : Nat) (serial : Serial) (s : State) : State :=
  match slotOf n with
  | none => completeEnumeration 64 true s
  | some i =>
    let s := notify s (s.putTile i (enumTile s.protSet.lostPolicy serial (s.tile i)))
    if relearnAborting s then abortEnumeration (n + 1) s else s.setActivity (.enum (n + 1))

/-- ENUM `n` has drawn no valid reply (R20, R21, R22). -/
def enumUnanswered (n : Nat) (s : State) : State :=
  match slotOf n with
  | none => completeEnumeration 64 false s
  | some _ => if relearnAborting s then abortEnumeration n s else completeEnumeration n false (vacateFrom n s)

/-! ## The events of the table -/

/-- A new round starts (R3). An event that finds a round or a RELEARN in progress changes nothing. -/
def execRoundStart (s : State) : Host.Outcome State Fault Refusal :=
  .next (if canStartRound s then event startRound s else s)

/-- A waiting RELEARN sends ENUM 0 (R20). -/
def execRelearnEnumerationStart (s : State) : Host.Outcome State Fault Refusal :=
  .next (if s.relearning && s.chain.activity == .idle && !s.inReset then sendEnum0 s else s)

/-- A valid POLL reply (R10). With no POLL in flight, or with a field outside its range, it is no valid reply and changes
nothing (R8). -/
def execPollReply (temp : Option Int) (fault : Bool) (hours load : Nat) (echo : RGB Nat) (s : State) :
    Host.Outcome State Fault Refusal :=
  .next (match s.chain.activity with
    | .poll i =>
      if pollReplyOk temp hours load echo then
        event (fun s => pollFrom (i.val + 1) (pollReplied i temp fault hours load echo s)) s
      else s
    | _ => s)

/-- The POLL reply window expires (R9). -/
def execPollMiss (s : State) : Host.Outcome State Fault Refusal :=
  .next (match s.chain.activity with
    | .poll i => event (fun s => pollFrom (i.val + 1) (missAt i s)) s
    | _ => s)

/-- A valid PUSH reply (R11). -/
def execPushReply (echo : RGB Nat) (s : State) : Host.Outcome State Fault Refusal :=
  .next (match s.chain.activity with
    | .push i _ => if coefFieldOk echo then event (fun s => pushFrom (i.val + 1) (pushReplied i echo s)) s else s
    | _ => s)

/-- The PUSH reply window expires (R11). -/
def execPushMiss (s : State) : Host.Outcome State Fault Refusal :=
  .next (match s.chain.activity with
    | .push i _ => event (fun s => pushFrom (i.val + 1) (missAt i s)) s
    | _ => s)

/-- A valid ADOPT reply (R15). -/
def execAdoptReply (serial : Serial) (s : State) : Host.Outcome State Fault Refusal :=
  .next (match s.chain.activity with
    | .adopt i => event (fun s => probePhase (adoptReplied i serial s)) s
    | _ => s)

/-- The ADOPT reply window expires: no miss is counted (R9, R18). -/
def execAdoptNoReply (s : State) : Host.Outcome State Fault Refusal :=
  .next (match s.chain.activity with
    | .adopt _ => event probePhase s
    | _ => s)

/-- A valid ENUM reply (R20). -/
def execEnumReply (serial : Serial) (s : State) : Host.Outcome State Fault Refusal :=
  .next (match s.chain.activity with
    | .enum n => event (enumReplied n serial) s
    | _ => s)

/-- An ENUM draws no valid reply (R20). -/
def execEnumNoReply (s : State) : Host.Outcome State Fault Refusal :=
  .next (match s.chain.activity with
    | .enum n => event (enumUnanswered n) s
    | _ => s)

/-- A valid PATCH reply (R166): the settle wait begins, or a PATCH OFF ends the probe step. -/
def execPatchReply (s : State) : Host.Outcome State Fault Refusal :=
  .next (match s.chain.activity with
    | .patch i c =>
      event (fun s =>
        let s := answeredAt i s
        if discarding s then sendPatchOff i c 0 .discarded s else s.setActivity (.settle i c)) s
    | .patchOff i c _ e => event (fun s => endProbeStep i c e (answeredAt i s)) s
    | _ => s)

/-- The PATCH reply window expires (R166): a miss, and the channel fails NOREPLY, or the step ends at PATCH OFF. -/
def execPatchMiss (s : State) : Host.Outcome State Fault Refusal :=
  .next (match s.chain.activity with
    | .patch i c => event (fun s => sendPatchOff i c 0 (.failed .noReply) (missAt i s)) s
    | .patchOff i c _ e => event (fun s => endProbeStep i c e (missAt i s)) s
    | _ => s)

/-- The settle time ends and SENSE at range 0 is sent, or the step is wound down (R166, R172). -/
def execSettleWaitEnd (s : State) : Host.Outcome State Fault Refusal :=
  .next (match s.chain.activity with
    | .settle i c =>
      if discarding s then sendPatchOff i c 0 .discarded s else s.setActivity (.sense i c 0)
    | _ => s)

/-- A valid SENSE reply (R167). The count decides, whatever the status. -/
def execSenseReply (_ : SenseStatus) (count : Nat) (s : State) : Host.Outcome State Fault Refusal :=
  .next (match s.chain.activity with
    | .sense i c r =>
      if senseCountOk count then event (fun s => senseReplied i c r count (answeredAt i s)) s else s
    | _ => s)

/-- The SENSE reply window expires: a miss, and the channel fails NOREPLY (R167). -/
def execSenseMiss (s : State) : Host.Outcome State Fault Refusal :=
  .next (match s.chain.activity with
    | .sense i c r => event (fun s => sendPatchOff i c r (.failed .noReply) (missAt i s)) s
    | _ => s)

end Sys2Proof.Machine
end

