-- ==== Sys2Proof/Machine/Requests.lean ====
section
/-! DEFINITION. How a posted request is taken: the slot, the issuer's right, freeze and the modal check (R188, R193 to R195,
R199). -/

namespace Sys2Proof.Machine

/-- A cell of R195's table: taken, refused NOAUTH, or taken subject to freeze. -/
inductive Right where
  | yes
  | no
  | freeze
  deriving DecidableEq, Repr

/-- The three columns of R195's table. -/
inductive Standing where
  | holder
  | nonHolder
  | service
  deriving DecidableEq, Repr

/-- The column a port stands in (R195): while authority is VACANT both programme ports are non-holders. -/
def standing (s : State) (p : Port) : Standing :=
  match p with
  | .service => .service
  | .prog q => if s.auth.holder = some q then .holder else .nonHolder

/-- The table of R195. -/
def right : ReqName → Standing → Right
  | .claim, .service => .no
  | .claim, _ => .yes
  | .release, .holder | .setShow, .holder | .freeze, .holder | .thaw, .holder | .setBudget, .holder => .yes
  | .release, _ | .setShow, _ | .freeze, _ | .thaw, _ | .setBudget, _ => .no
  | .putProfile, .nonHolder | .dropProfile, .nonHolder | .putMap, .nonHolder | .clearMap, .nonHolder => .no
  | .putProfile, _ | .dropProfile, _ | .putMap, _ | .clearMap, _ => .freeze
  | .setTrack, .nonHolder | .setSlew, .nonHolder | .setTemp, .nonHolder | .setProtect, .nonHolder => .no
  | .setTrack, _ | .setSlew, _ | .setTemp, _ | .setProtect, _ => .freeze
  | .sweep, .nonHolder | .relearn, .nonHolder => .no
  | .sweep, _ | .relearn, _ => .freeze
  | .clearFaults, .nonHolder => .no
  | .clearFaults, _ => .yes
  | .restartChain, .holder => .yes
  | .restartChain, .nonHolder => .no
  | .restartChain, .service => .freeze
  | .setNotice, _ => .yes
  | .unnamed _, _ => .yes

/-- SWEEP and RELEARN, the modal jobs (R199). -/
def ReqName.modal : ReqName → Bool
  | .sweep => true
  | .relearn => true
  | _ => false

/-- The modal check refuses a job from port `p` (R173, R199): the token is held, except by a sweep whose issuer is not the
authority holder where `p` is. -/
def modalRefuses (s : State) (p : Port) : Bool :=
  match s.token with
  | .free => false
  | .relearn _ => true
  | .sweep q => !(s.isHolder p && !s.isHolder q)

/-- Stages 1 to 3 of R194: the reason of the first check that fails. -/
def admission (name : ReqName) (p : Port) (s : State) : Option Reason :=
  match right name (standing s p) with
  | .no => some .noAuth
  | .freeze => if s.frozen then some .frozen else if name.modal && modalRefuses s p then some .modal else none
  | .yes => if name.modal && modalRefuses s p then some .modal else none

/-- A transaction is taken on port `p` (R191): while RESETn is low chip-select activity is ignored; else it restarts the
port's liveness timer (R178) and has its effect `f`. -/
def transaction (p : Port) (f : State → State) (s : State) : State :=
  if s.inReset then s else f (touch p s)

/-- A POST of the request `name` on port `p` (R193): discarded with overrun on a BUSY slot, refused where a check of stages 1
to 3 fails, else judged by its own parameters and conditions `f`. -/
def post (name : ReqName) (p : Port) (f : State → State) : State → State :=
  transaction p fun s =>
    if (s.port p).busy.isSome then s.putPort p { s.port p with overrun := true }
    else
      match admission name p s with
      | some why => refuse p name why s
      | none => f s

/-- A request's parameters (stage 4 of R194): a block its reader refuses is RANGE. -/
def withBlock {α : Type} (name : ReqName) (p : Port) (x : Option α) (f : α → State → State) (s : State) : State :=
  match x with
  | none => refuse p name .range s
  | some v => f v s

/-- A whole POST event. -/
def posted {α : Type} (name : ReqName) (p : Port) (x : Option α) (f : α → State → State) (s : State) : State :=
  event (post name p (withBlock name p x f)) s

/-- The value a setting takes: the given one, clamped, or the held one (R204). -/
def setTo {α β : Type} (x : Option α) (clamp : α → β) (held : β) : β :=
  match x with
  | some v => clamp v
  | none => held

end Sys2Proof.Machine
end

