-- ==== Sys2Proof/Machine/SettingRequests.lean ====
section
/-! DEFINITION. The settings requests: SET-BUDGET, SET-TRACK, SET-SLEW, SET-TEMP and SET-PROTECT; CLEAR-FAULTS; and the expiry of
a retry timer (R76, R107 to R109, R120, R132, R136 to R142, R148, R149, R157). -/

namespace Sys2Proof.Machine

/-! ## SET-BUDGET -/

/-- A budget of 1..99 is held as 100 (R148). -/
def clampBudget (x : Nat) : Nat := if x = 0 then 0 else max 100 x

/-- The budget settings of a SET-BUDGET, clamped (R148). -/
def budgetAfter (x : BudgetBlock) (b : BudgetSettings) : BudgetSettings :=
  { budget := setTo x.budget clampBudget b.budget
    mode := setTo x.mode id b.mode
    hysteresis := setTo x.hysteresis (clampNat 1 50) b.hysteresis
    count := setTo x.count (clampNat 1 255) b.count }

/-- SET-BUDGET (R148, R149): a change of Sb re-forms every slot (R99). -/
def doSetBudget (p : Port) (x : BudgetBlock) (s : State) : State :=
  let old := s.budget
  let s := s.setBudget (Budget.afterSet old { old with set := budgetAfter x old.set })
  let s := if s.budget.sb = old.sb then s else reformAll s
  finish p .setBudget (.budget s.budget.set s.budget.state s.budget.sb s.budget.estimate) s

/-! ## SET-TRACK -/

/-- The override after a mode choice (R107). -/
def overrideAfter (c : TrackChoice) (held : Option TrackMode) : Option TrackMode :=
  match c with
  | .mode m => some m
  | .profile => none
  | .keep => held

/-- The slew record with the override and manual gains of a SET-TRACK (R107). -/
def trackRecord (x : TrackBlock) (r : SlewRec) : SlewRec :=
  { r with
    override := overrideAfter x.choice r.override
    manual := setTo x.manual (fun g => g.map (min 4096)) r.manual }

/-- A SET-TRACK on an ACTIVE slot jumps it to its manual gains (R109): FIXED is in force after it, and the mode in force or the
manual gains are not as they were. -/
def trackJumps (old new : Tile) : Bool :=
  new.chain.state == .active && new.mode == some .fixed && (old.mode != some .fixed || old.slew.manual != new.slew.manual)

/-- The effect of a SET-TRACK on its slot (R108 to R111). -/
def trackTile (x : TrackBlock) (m sb : Nat) (t : Tile) : Tile :=
  let n := t.setSlew (trackRecord x t.slew)
  if trackJumps t n then formTile .reform m sb (n.setSlew { n.slew with ga := some n.slew.manual }) else n

/-- SET-TRACK (R107). -/
def doSetTrack (p : Port) (x : TrackBlock) (s : State) : State :=
  if (s.tile x.slot).present then
    let s := s.putTile x.slot (trackTile x s.showRec.m s.budget.sb (s.tile x.slot))
    let t := s.tile x.slot
    finish p .setTrack (.track x.slot t.slew.override t.slew.manual t.mode t.slew.ga) s
  else refuse p .setTrack .notFound s

/-! ## SET-SLEW and SET-TEMP -/

/-- The slew settings of a SET-SLEW, clamped (R120). -/
def slewAfter (x : SlewBlock) (r : SlewSettings) : SlewSettings :=
  { stepUp := setTo x.stepUp (clampNat 1 512) r.stepUp
    stepDown := setTo x.stepDown (clampNat 1 512) r.stepDown
    tolerance := setTo x.tolerance (min 256) r.tolerance }

/-- SET-SLEW (R120). -/
def doSetSlew (p : Port) (x : SlewBlock) (s : State) : State :=
  let s := s.setSlewSet (slewAfter x s.slewSet)
  finish p .setSlew (.slew s.slewSet) s

/-- The temperature settings of a SET-TEMP: each value clamped to its range, then a HOT limit at or above the trip limit held as
the trip limit - 1 (R76). -/
def tempAfter (x : TempBlock) (r : TempSettings) : TempSettings :=
  let hot := setTo x.hotLimit (clampInt 40 105) r.hotLimit
  let trip := setTo x.tripLimit (clampInt 50 110) r.tripLimit
  { w := setTo x.w (min 7) r.w
    hotLimit := if trip ≤ hot then trip - 1 else hot
    tripLimit := trip
    hysteresis := setTo x.hysteresis (fun h => (clampNat 1 20 h : Int)) r.hysteresis }

/-- Every accumulator emptied (R73). -/
def emptyAccumulators (s : State) : State :=
  s.setTiles (s.tiles.map fun t => t.setTemp { t.temp with sum := 0, count := 0 })

/-- SET-TEMP (R73, R76). -/
def doSetTemp (p : Port) (x : TempBlock) (s : State) : State :=
  let old := s.tempSet
  let s := s.setTempSet (tempAfter x old)
  let s := if s.tempSet.w = old.w then s else emptyAccumulators s
  finish p .setTemp (.temp s.tempSet) s

/-! ## SET-PROTECT -/

/-- The settings of one class, clamped (R136). -/
def classAfter (x : ClassBlock) (r : ClassSettings) : ClassSettings :=
  { mode := setTo x.mode id r.mode
    action := setTo x.action id r.action
    dim := setTo x.dim (min 4096) r.dim
    retry := setTo x.retry (clampNat 1 255) r.retry }

/-- The protection settings of a SET-PROTECT (R136). -/
def protectAfter (x : ProtBlock) (r : ProtSettings) : ProtSettings :=
  { hot := classAfter x.hot r.hot
    sensor := classAfter x.sensor r.sensor
    shortReport := setTo x.shortReport id r.shortReport
    lostPolicy := setTo x.lostPolicy id r.lostPolicy }

/-- One class of one slot brought into line with its new settings (R137, R138). -/
def alignClass (old new : ClassSettings) (c : Cond) (a : Act) : Cond × Act :=
  let y := if old.mode = new.mode then (c, a) else alignMode new c a
  (y.1, alignAction new y.2)

/-- SHORT brought into line with a changed mode (R137). -/
def alignShort (old new : Bool) (c : Cond) : Cond :=
  if old = new then c
  else if new then { c with active := c.cond, latched := c.latched || c.cond }
  else { c with active := false }

/-- One slot's record brought into line with new protection settings (R137, R138). -/
def alignProt (old new : ProtSettings) (r : ProtRec) : ProtRec :=
  let h := alignClass old.hot new.hot r.hot r.hotAct
  let n := alignClass old.sensor new.sensor r.sensor r.sensorAct
  { r with
    hot := h.1, hotAct := h.2, sensor := n.1, sensorAct := n.2
    short := alignShort old.shortReport new.shortReport r.short }

/-- SET-PROTECT (R6, R136 to R139). -/
def doSetProtect (p : Port) (x : ProtBlock) (s0 : State) : State :=
  let s := s0.setProtSet (protectAfter x s0.protSet)
  let s := s.setChain { s.chain with
    missLimit := setTo x.missLimit (clampNat 1 15) s.chain.missLimit
    roundInterval := setTo x.roundInterval (clampNat 10 1000) s.chain.roundInterval }
  let s := s.setTiles (s.tiles.map fun t => t.setProt (alignProt s0.protSet s.protSet t.prot))
  let s := settleAll s0 s
  finish p .setProtect (.protect s.protSet s.chain.missLimit s.chain.roundInterval) s

/-! ## CLEAR-FAULTS -/

/-- Step 1 of R141: a LOST slot whose answering flag is set returns. -/
def clearReturns (t : Tile) : Bool := t.chain.state == .lost && t.chain.answering

/-- A class whose active flag is clear loses its latched flag (step 3 of R141). -/
def Cond.unlatch (x : Cond) : Cond := if x.active then x else { x with latched := false }

/-- A latched flag that step 3 of R141 clears. -/
def Cond.unlatches (x : Cond) : Bool := x.latched && !x.active

/-- A LATCHED action whose condition is INACTIVE is released (step 4 of R141). -/
def releases (c : ClassSettings) (x : Cond) (a : Act) : Bool := c.mode == .latched && !x.cond && a.kind != .none

/-- Steps 1 and 2 of R141. -/
def clearStart (t : Tile) : Tile :=
  let t := if clearReturns t then returnFromLost t else t
  t.setProt { t.prot with probe := t.prot.probe.clear }

/-- Steps 3 and 4 of R141. -/
def clearRest (x : ProtSettings) (r : ProtRec) : ProtRec :=
  { r with
    hot := r.hot.unlatch
    overheat := r.overheat.unlatch
    sensor := r.sensor.unlatch
    lost := r.lost.unlatch
    short := r.short.unlatch
    probe := r.probe.unlatch
    probeReason := if r.probe.unlatches then none else r.probeReason
    probeChan := if r.probe.unlatches then none else r.probeChan
    hotAct := if releases x.hot r.hot r.hotAct then Act.released else r.hotAct
    sensorAct := if releases x.sensor r.sensor r.sensorAct then Act.released else r.sensorAct }

/-- Steps 1 to 4 of R141 on a covered slot. -/
def clearTile (x : ProtSettings) (t : Tile) : Tile :=
  let t := clearStart t
  t.setProt (clearRest x t.prot)

/-- The slots a CLEAR-FAULTS covers (R140): the named slot, or every slot that is not VACANT. -/
def covers (s : State) (target : Option Slot) (i : Slot) : Bool :=
  match target with
  | some j => i == j
  | none => (s.tile i).present

/-- A count of latched flags that step 3 clears on a slot. -/
def unlatchCount (r : ProtRec) : Nat := (r.conds.filter Cond.unlatches).length

/-- A count of LATCHED actions that step 4 releases on a slot. -/
def releaseCount (x : ProtSettings) (r : ProtRec) : Nat :=
  (if releases x.hot r.hot r.hotAct then 1 else 0) + (if releases x.sensor r.sensor r.sensorAct then 1 else 0)

/-- A sum over the covered slots. -/
def sumCovered (s : State) (target : Option Slot) (f : Tile → Nat) : Nat :=
  ((slots.filter (covers s target)).map fun i => f (s.tile i)).sum

/-- BUDGET's latched flag after a CLEAR-FAULTS (R157). -/
def clearBudget (target : Option Slot) (b : Budget) : Budget :=
  match target with
  | some _ => b
  | none => if b.active then b else { b with latched := false }

/-- The result data of R142, from the state before the request. -/
def clearResult (s : State) (target : Option Slot) : ResultData :=
  .cleared
    (slots.filter (covers s target)).length
    (sumCovered s target fun t => if clearReturns t then 1 else 0)
    (sumCovered s target (fun t => unlatchCount (clearStart t).prot)
      + (if target.isNone && s.budget.latched && !s.budget.active then 1 else 0))
    (sumCovered s target fun t => releaseCount s.protSet (clearStart t).prot)
    (sumCovered s target (fun t => ((clearStart t).prot.conds.filter (·.active)).length)
      + (if target.isNone && s.budget.active then 1 else 0))

/-- CLEAR-FAULTS (R140 to R142, R157). -/
def doClearFaults (p : Port) (target : Option Slot) (s0 : State) : State :=
  let vacantNamed := match target with
    | some i => !(s0.tile i).present
    | none => false
  if vacantNamed then refuse p .clearFaults .notFound s0
  else
    let s := s0.setTiles (s0.tiles.mapIdx fun i t => if covers s0 target i then clearTile s0.protSet t else t)
    let s := s.setBudget (clearBudget target s.budget)
    let s := settleAll s0 s
    finish p .clearFaults (clearResult s0 target) s

/-! ## Retry timers -/

/-- The action of a class on a slot. -/
def ProtRec.act (r : ProtRec) : TimedClass → Act
  | .hot => r.hotAct
  | .sensor => r.sensorAct

/-- The action of a class released (R132). -/
def ProtRec.releaseAct (r : ProtRec) : TimedClass → ProtRec
  | .hot => { r with hotAct := Act.released }
  | .sensor => { r with sensorAct := Act.released }

/-- A retry timer expires at slot `i` (R132): the action is released, whatever the condition. -/
def expireRetry (i : Slot) (cls : TimedClass) (s : State) : State :=
  let t := s.tile i
  settleSlot s i (s.putTile i (t.setProt (t.prot.releaseAct cls)))

/-- SET-BUDGET (R148, R149). -/
def execSetBudget (p : Port) (block : List Byte) (s : State) : Host.Outcome State Fault Refusal :=
  .next (posted .setBudget p (readBudget block) (doSetBudget p) s)

/-- SET-TRACK (R107 to R111). -/
def execSetTrack (p : Port) (block : List Byte) (s : State) : Host.Outcome State Fault Refusal :=
  .next (posted .setTrack p (readTrack block) (doSetTrack p) s)

/-- SET-SLEW (R120). -/
def execSetSlew (p : Port) (block : List Byte) (s : State) : Host.Outcome State Fault Refusal :=
  .next (posted .setSlew p (readSlew block) (doSetSlew p) s)

/-- SET-TEMP (R73, R76). -/
def execSetTemp (p : Port) (block : List Byte) (s : State) : Host.Outcome State Fault Refusal :=
  .next (posted .setTemp p (readTemp block) (doSetTemp p) s)

/-- SET-PROTECT (R6, R136 to R139). -/
def execSetProtect (p : Port) (block : List Byte) (s : State) : Host.Outcome State Fault Refusal :=
  .next (posted .setProtect p (readProtect block) (doSetProtect p) s)

/-- CLEAR-FAULTS (R140 to R142). -/
def execClearFaults (p : Port) (block : List Byte) (s : State) : Host.Outcome State Fault Refusal :=
  .next (posted .clearFaults p (readClearFaults block) (doClearFaults p) s)

/-- A retry timer expires (R132). A timer that is STOPPED does not. -/
def execRetryTimerExpiry (i : Slot) (cls : TimedClass) (s : State) : Host.Outcome State Fault Refusal :=
  .next (if ((s.tile i).prot.act cls).timer.isSome then event (expireRetry i cls) s else s)

end Sys2Proof.Machine
end

