-- ==== Sys2Proof/Machine/ShowRequests.lean ====
section
/-! DEFINITION. Show authority: CLAIM, RELEASE, SET-SHOW, FREEZE, THAW, and the expiry of a liveness timer (R177 to R187). -/

namespace Sys2Proof.Machine

/-- The result data of a completed CLAIM as they stand (R180). -/
def claimResult (s : State) : ResultData := .claim s.auth.holder s.frozen

/-- CLAIM from programme port `q` (the table of R180). -/
def claimBy (q : Prog) (wait : Bool) (s : State) : State :=
  match s.auth.holder with
  | none =>
    let s := s.setAuth { s.auth with holder := some q, lastChange := .claim, changes := nextCount s.auth.changes }
    (finish (.prog q) .claim (claimResult s) s).noticeAll { auth := true }
  | some h =>
    if h = q then finish (.prog q) .claim (claimResult s) s
    else if wait then
      (hold (.prog q) .claim (s.setAuth { s.auth with standby := some q })).noticeAll { auth := true }
    else refuse (.prog q) .claim .held s

/-- CLAIM (R180). The service port has no right to it (R195). -/
def doClaim (p : Port) (wait : Bool) (s : State) : State :=
  match p with
  | .prog q => claimBy q wait s
  | .service => refuse p .claim .noAuth s

/-- RELEASE (R182): the request completes, and authority leaves the port in the same event. -/
def doRelease (p : Port) (_ : Unit) (s : State) : State :=
  let s := passAuthority .release s
  finish p .release (.release s.auth.holder) s

/-- The show record with the settings of a SET-SHOW, clamped (R184). -/
def showAfter (x : ShowBlock) (r : ShowRec) : ShowRec :=
  { m := setTo x.m (min 4096) r.m
    want := setTo x.want (fun w => w.map (max 1)) r.want
    floorRatio := setTo x.floorRatio (min 4096) r.floorRatio
    ambient := match x.ambient with
      | .keep => r.ambient
      | .clear => none
      | .set t => some (clampTemp t)
    timeout := setTo x.timeout (clampNat 5 100) r.timeout }

/-- A change of M re-forms every slot, and ends a sweep LIVE where M is now above 0 (R174, R185). -/
def showM (old : ShowRec) (s : State) : State :=
  if s.showRec.m = old.m then s
  else
    let s := reformAll s
    if 0 < s.showRec.m ∧ s.sweep.inProgress = true then cutSweep .aborted (some .live) s else s

/-- A change of Want re-derives Target from the held s (R93). -/
def showWant (old : ShowRec) (s : State) : State :=
  if s.showRec.want = old.want then s
  else s.setWall { s.wall with target := s.showRec.want.map fun x => targetOf x s.wall.s }

/-- A RUNNING liveness timer restarted (R178). -/
def LTimer.restarted (ms : Nat) : LTimer → LTimer
  | .running _ => .running ms
  | .stopped => .stopped
  | .expired => .expired

/-- A change of the liveness timeout restarts every RUNNING timer (R178). -/
def showTimeout (old : ShowRec) (s : State) : State :=
  if s.showRec.timeout = old.timeout then s
  else s.setAuth { s.auth with
    timerA := s.auth.timerA.restarted s.showRec.timeoutMs
    timerB := s.auth.timerB.restarted s.showRec.timeoutMs }

/-- SET-SHOW (R184, R185). -/
def doSetShow (p : Port) (x : ShowBlock) (s : State) : State :=
  let old := s.showRec
  let s := s.setShowRec (showAfter x old)
  let s := showTimeout old (showWant old (showM old s))
  finish p .setShow (.shown s.showRec) s

/-- FREEZE (R186). -/
def doFreeze (p : Port) (k : Key) (s : State) : State :=
  match s.auth.key with
  | none => (finish p .freeze (.frozen true) (s.setAuth { s.auth with key := some k })).noticeAll { auth := true }
  | some held => if k = held then finish p .freeze (.frozen true) s else refuse p .freeze .badKey s

/-- THAW (R187). -/
def doThaw (p : Port) (k : Key) (s : State) : State :=
  match s.auth.key with
  | none => finish p .thaw (.frozen false) s
  | some held =>
    if k = held then (finish p .thaw (.frozen false) (s.setAuth { s.auth with key := none })).noticeAll { auth := true }
    else refuse p .thaw .badKey s

/-- A liveness timer runs out (R178): where its port holds authority, that is a lapse (R179). -/
def expireTimer (q : Prog) (s : State) : State :=
  let s := s.setAuth (s.auth.setTimer q .expired)
  if s.auth.holder = some q then passAuthority .lapse s else s

/-- A liveness timer that is RUNNING can expire. -/
def LTimer.isRunning : LTimer → Bool
  | .running _ => true
  | .stopped => false
  | .expired => false

/-- CLAIM (R180, R181). -/
def execClaim (p : Port) (block : List Byte) (s : State) : Host.Outcome State Fault Refusal :=
  .next (posted .claim p (readClaim block) (doClaim p) s)

/-- RELEASE (R182). -/
def execRelease (p : Port) (block : List Byte) (s : State) : Host.Outcome State Fault Refusal :=
  .next (posted .release p (readEmpty block) (doRelease p) s)

/-- SET-SHOW (R184, R185). -/
def execSetShow (p : Port) (block : List Byte) (s : State) : Host.Outcome State Fault Refusal :=
  .next (posted .setShow p (readShow block) (doSetShow p) s)

/-- FREEZE (R186). -/
def execFreeze (p : Port) (block : List Byte) (s : State) : Host.Outcome State Fault Refusal :=
  .next (posted .freeze p (readKey block) (doFreeze p) s)

/-- THAW (R187). -/
def execThaw (p : Port) (block : List Byte) (s : State) : Host.Outcome State Fault Refusal :=
  .next (posted .thaw p (readKey block) (doThaw p) s)

/-- A programme port's liveness timer runs out (R178). A timer that is not RUNNING does not expire. -/
def execLivenessTimerExpiry (q : Prog) (s : State) : Host.Outcome State Fault Refusal :=
  .next (if (s.auth.timer q).isRunning then event (expireTimer q) s else s)

end Sys2Proof.Machine
end

