-- ==== Sys2Proof/Machine/Clock.lean ====
section
/-! DEFINITION. The passage of one millisecond while no command waits: the liveness timers, the retry timers and the round timer
(R3, R132, R178). DESIGN CHOICE (log entry 2): the table has no row for a tick, so `step` takes one on an empty queue. -/

namespace Sys2Proof.Machine

/-- One millisecond off a RUNNING liveness timer. -/
def LTimer.aged : LTimer → LTimer
  | .running n => .running (n - 1)
  | .stopped => .stopped
  | .expired => .expired

/-- One millisecond off a retry timer. -/
def Act.aged (a : Act) : Act := { a with timer := a.timer.map (· - 1) }

/-- One millisecond off a slot's retry timers. -/
def Tile.aged (t : Tile) : Tile :=
  t.setProt { t.prot with hotAct := t.prot.hotAct.aged, sensorAct := t.prot.sensorAct.aged }

/-- One millisecond on the round timer, counted up to the longest round interval. -/
def ChainCtl.aged (c : ChainCtl) : ChainCtl := { c with roundTimer := c.roundTimer.map fun n => min 1000 (n + 1) }

/-- One millisecond on every timer of the part. -/
def State.aged (s : State) : State :=
  ((s.setAuth { s.auth with timerA := s.auth.timerA.aged, timerB := s.auth.timerB.aged }).setTiles
    (s.tiles.map Tile.aged)).setChain s.chain.aged

/-- A liveness timer that has run out expires (R178). -/
def expireDue (q : Prog) (s : State) : State :=
  if s.auth.timer q = .running 0 then event (expireTimer q) s else s

/-- A retry timer that has run out expires (R132). -/
def retryDue (s : State) (x : Slot × TimedClass) : State :=
  if ((s.tile x.1).prot.act x.2).timer = some 0 then event (expireRetry x.1 x.2) s else s

/-- The retry timers in slot order. -/
def retryTimers : List (Slot × TimedClass) := slots.flatMap fun i => [(i, .hot), (i, .sensor)]

/-- The round interval has passed since the previous round's start, or the next round starts at once (R3, R21, R22). -/
def roundDue (c : ChainCtl) : Bool :=
  c.startNow || (match c.roundTimer with | some n => decide (c.roundInterval ≤ n) | none => false)

/-- The waiting RELEARN sends ENUM 0, or the round that is due starts (R3, R20). -/
def chainDue (s : State) : State :=
  if s.relearning && s.chain.activity == .idle then sendEnum0 s
  else if canStartRound s && roundDue s.chain then event startRound s
  else s

/-- One millisecond passes. While RESETn is low every timer is stopped. -/
def tick (s : State) : State :=
  if s.inReset then s
  else chainDue (retryTimers.foldl retryDue (expireDue .B (expireDue .A s.aged)))

end Sys2Proof.Machine
end

