-- ==== Sys2Proof/Machine/JobRequests.lean ====
section
/-! DEFINITION. The modal jobs SWEEP and RELEARN, and RESTART-CHAIN (R20, R23, R162, R173, R189, R199). -/

namespace Sys2Proof.Machine

/-- The sweep that holds the token is pre-empted at the acceptance of the pre-empting job (R173). Where the token is free there is
none. -/
def preempt (s : State) : State :=
  match s.token with
  | .sweep _ => cutSweep .aborted (some .preempted) s
  | .free => s
  | .relearn _ => s

/-- SWEEP (R162): LIVE where M is not 0, else accepted. -/
def doSweep (p : Port) (x : SweepParams) (s : State) : State :=
  if s.showRec.m ≠ 0 then refuse p .sweep .live s
  else
    let s := preempt s
    hold p .sweep ((s.setSweep (s.sweep.accepted p x)).setToken (.sweep p))

/-- RELEARN (R20): accepted, it sends ENUM 0 at once where no round is in progress, and else waits. -/
def doRelearn (p : Port) (_ : Unit) (s : State) : State :=
  let s := preempt s
  let s := hold p .relearn (s.setToken (.relearn (some p)))
  if s.chain.activity = .idle then sendEnum0 s else s

/-- The modal job in progress (R189, R199). -/
def Token.job : Token → Option JobKind
  | .free => none
  | .sweep _ => some .sweep
  | .relearn _ => some .relearn

/-- Step 1 of R189: the modal job in progress is cancelled. A sweep that was pre-empted has its result already (R173), and a probe step
of it that is being wound down is dropped with the chain controller's restart (DEDUCED, log entry 33). -/
def cancelJob (s : State) : State :=
  match s.token with
  | .free => s
  | .sweep _ => endSweep .aborted (some .restart) s
  | .relearn _ => endRelearn .aborted (some .restart) .nothing s

/-- The engine's wall record at RESTART-CHAIN (R104). -/
def WallRec.restart (x : ShowRec) (w : WallRec) : WallRec :=
  { number := w.number, wantInUse := x.want, floorRatioInUse := x.floorRatio, target := x.want }

/-- The chain controller at RESTART-CHAIN, with the ENUM 0 of the RELEARN that belongs to no port in flight (R23, R24). -/
def ChainCtl.restart (c : ChainCtl) : ChainCtl :=
  { roundInterval := c.roundInterval, missLimit := c.missLimit, tileCount := c.tileCount, activity := .enum 0 }

/-- The effects of RESTART-CHAIN (R23, R189). -/
def restartEffects (s : State) : State :=
  let s := cancelJob s
  let s := s.setTiles (Table.fill 64 {})
  let s := s.setChain s.chain.restart
  let s := s.setWall (s.wall.restart s.showRec)
  let s := s.setBudget s.budget.restart
  s.setToken (.relearn none)

/-- RESTART-CHAIN (R189). -/
def doRestartChain (p : Port) (_ : Unit) (s : State) : State :=
  let d := ResultData.restart s.token.job (s.tiles.count Tile.present)
  finish p .restartChain d (restartEffects s)

/-- SWEEP (R162). -/
def execSweep (p : Port) (block : List Byte) (s : State) : Host.Outcome State Fault Refusal :=
  .next (posted .sweep p (readSweep block) (doSweep p) s)

/-- RELEARN (R20). -/
def execRelearn (p : Port) (block : List Byte) (s : State) : Host.Outcome State Fault Refusal :=
  .next (posted .relearn p (readEmpty block) (doRelearn p) s)

/-- RESTART-CHAIN (R189). -/
def execRestartChain (p : Port) (block : List Byte) (s : State) : Host.Outcome State Fault Refusal :=
  .next (posted .restartChain p (readEmpty block) (doRestartChain p) s)

end Sys2Proof.Machine
end

