-- ==== Sys2Proof/Config.lean ====
section
/-! DEFINITION. The free values: what the spec leaves without a value. Each is an opaque constant, so that no proof can
see what it is and every claim holds whatever it is. Each has a row in notes/assumptions. -/

namespace Sys2Proof.Config

/-- DESIGN CHOICE (log entry 3). The byte that STATUS and RESULT return as the request of a completed POST whose code names
no request: R193 records "the request's name" and such a request has none. -/
opaque unnamedRequestByte : Byte → Byte

/-- DESIGN CHOICE (log entry 4). The byte that stands for EDGE in a neighbour field of the tile record: R60 lists EDGE,
EMPTY and slot numbers as its values and R203 gives the field no codes. -/
opaque edgeByte : Byte

/-- DESIGN CHOICE (log entry 4). The byte that stands for EMPTY in a neighbour field of the tile record. -/
opaque emptyNeighbourByte : Byte

/-- DESIGN CHOICE (log entry 4). The byte of the last own reading when it is NONE: R63 lists -128..127 or NONE for one
signed byte, and R203 gives NONE no code there. -/
opaque noReadingByte : Byte

/-- DESIGN CHOICE (log entry 4). The two bytes of the store status record's target: R25 lists a profile index, a grid
position or ALL for one field and R203 gives them no codes. The argument is 0..95 for profile index 1..96,
256 + 16 * row + col for a position, 512 for ALL. -/
opaque targetCode : Nat → BitVec 16

end Sys2Proof.Config
end

