-- ==== Sys2Proof/Machine/Records.lean ====
section
/-! DEFINITION. The layouts of what the part returns (R203, R205): STATUS, RESULT and the records of READ, as bytes. -/

namespace Sys2Proof.Machine

/-! ## Fields -/

/-- A one-byte field. -/
def u8 (n : Nat) : List Byte := [BitVec.ofNat 8 n]

/-- A two-byte field, most significant byte first (R203). -/
def u16 (n : Nat) : List Byte := [BitVec.ofNat 8 (n / 256), BitVec.ofNat 8 n]

/-- A three-byte field. -/
def u24 (n : Nat) : List Byte := BitVec.ofNat 8 (n / 65536) :: u16 n

/-- A four-byte field. -/
def u32 (n : Nat) : List Byte := u16 (n / 65536) ++ u16 n

/-- A six-byte field. -/
def u48 (n : Nat) : List Byte := u16 (n / 4294967296) ++ u32 n

/-- A signed one-byte field: two's complement. -/
def s8 (n : Int) : List Byte := [BitVec.ofInt 8 n]

/-- A signed two-byte field. -/
def s16 (n : Int) : List Byte := u16 (BitVec.ofInt 16 n).toNat

/-- A yes/no field or a flag: 1 for yes or set (R203). -/
def yesNo (b : Bool) : List Byte := u8 (if b then 1 else 0)

/-- Three fields in R, G, B order. -/
def rgb {α : Type} (f : α → List Byte) (x : RGB α) : List Byte := f x.r ++ f x.g ++ f x.b

/-- A set of channels: one bit per member (R203). -/
def chanSet (x : RGB Bool) : List Byte :=
  u8 ((if x.r then 1 else 0) + (if x.g then 2 else 0) + (if x.b then 4 else 0))

/-- A set of notice classes: bit 0 START to bit 5 STORE (R203). -/
def noticeSet (x : Notices) : List Byte :=
  u8 ((if x.start then 1 else 0) + (if x.job then 2 else 0) + (if x.cond then 4 else 0) + (if x.tile then 8 else 0)
    + (if x.auth then 16 else 0) + (if x.store then 32 else 0))

/-- One item of a record: a field that is always there, or an optional one with its presence. -/
inductive Item where
  | always (bs : List Byte)
  | optional (present : Bool) (bs : List Byte)
  deriving DecidableEq, Repr

/-- An optional field: absent, it still occupies its `n` bytes and reads as 0 (R203). -/
def opt {α : Type} (n : Nat) (f : α → List Byte) (x : Option α) : Item :=
  match x with
  | some v => .optional true (f v)
  | none => .optional false (List.replicate n 0)

/-- The bytes of an item. -/
def Item.bytes : Item → List Byte
  | .always bs => bs
  | .optional _ bs => bs

/-- The presence bits of the optional items, in record order. -/
def presence (xs : List Item) : List Bool :=
  xs.filterMap fun x => match x with
    | .always _ => none
    | .optional p _ => some p

/-- Eight bits as a byte, bit 0 first. -/
def bitsByte (xs : List Bool) : Nat := xs.foldr (fun b n => 2 * n + (if b then 1 else 0)) 0

/-- Bits packed into bytes, bit 0 of the first byte first; `n` bounds the number of bytes. -/
def packBits : (n : Nat) → List Bool → List Byte
  | 0, _ => []
  | _ + 1, [] => []
  | n + 1, x :: xs => BitVec.ofNat 8 (bitsByte ((x :: xs).take 8)) :: packBits n ((x :: xs).drop 8)

/-- A record: its presence map, which is there only where it has optional items, and its fields (R203, R205). -/
def encode (xs : List Item) : List Byte :=
  let bits := presence xs
  packBits bits.length bits ++ xs.flatMap Item.bytes

/-- A list field: a count byte and its entries, padded to its largest length `n` (R205). -/
def listField (n : Nat) (xs : List Nat) : List Byte :=
  u8 xs.length ++ (xs ++ List.replicate (n - xs.length) 0).flatMap u8

/-! ## Codes (R203) -/

/-- The code of a request. -/
def ReqName.code : ReqName → Byte
  | .claim => 1
  | .release => 2
  | .setShow => 3
  | .freeze => 4
  | .thaw => 5
  | .setBudget => 6
  | .putProfile => 7
  | .dropProfile => 8
  | .putMap => 9
  | .clearMap => 10
  | .setTrack => 11
  | .setSlew => 12
  | .setTemp => 13
  | .setProtect => 14
  | .clearFaults => 15
  | .sweep => 16
  | .relearn => 17
  | .restartChain => 18
  | .setNotice => 19
  | .unnamed code => Config.unnamedRequestByte code

/-- The code of an outcome. -/
def Verdict.code : Verdict → Nat
  | .done => 1
  | .aborted => 2
  | .refused => 3

/-- The code of a reason. -/
def Reason.code : Reason → Nat
  | .byPort => 1
  | .preempted => 2
  | .live => 3
  | .restart => 4
  | .noAuth => 5
  | .frozen => 6
  | .badKey => 7
  | .range => 8
  | .notFound => 9
  | .full => 10
  | .inUse => 11
  | .badLink => 12
  | .dupSerial => 13
  | .storeBusy => 14
  | .modal => 15
  | .held => 16

/-- Slot states in the order of section 1.2. -/
def SlotState.code : SlotState → Nat
  | .vacant => 0
  | .joining => 1
  | .active => 2
  | .unprofiled => 3
  | .lost => 4

/-- Unprofiled reasons in the order of section 1.2. -/
def UnprofReason.code : UnprofReason → Nat
  | .noProfile => 0
  | .noRef => 1
  | .badLink => 2
  | .dupSerial => 3

/-- Former states in the order of section 1.2. -/
def FormerState.code : FormerState → Nat
  | .joining => 0
  | .active => 1
  | .unprofiled => 2

/-- Temperature sources. -/
def Source.code : Source → Nat
  | .own => 0
  | .north => 1
  | .east => 2
  | .south => 3
  | .west => 4
  | .ambient => 5
  | .fixed => 6

/-- Tracking modes. -/
def TrackMode.code : TrackMode → Nat
  | .fixed => 0
  | .model => 1
  | .sensed => 2

/-- Reference sets in the order of R83. -/
def RefSet.code : RefSet → Nat
  | .model => 0
  | .sensed => 1

/-- Formations in the order of R83. -/
def FormedBy.code : FormedBy → Nat
  | .recompute => 0
  | .reform => 1

/-- Slew statuses in the order of R105. -/
def SlewStatus.code : SlewStatus → Nat
  | .first => 0
  | .up => 1
  | .down => 2
  | .settled => 3
  | .held => 4
  | .manual => 5
  | .uncorrected => 6

/-- Actions in force in the order of R123. -/
def Action.code : Action → Nat
  | .none => 0
  | .hold => 1
  | .dim => 2
  | .blank => 3

/-- Settable actions in the order of R136. -/
def ActionKind.code : ActionKind → Nat
  | .hold => 0
  | .dim => 1
  | .blank => 2

/-- Probe reasons in the order of R123. -/
def ProbeReason.code : ProbeReason → Nat
  | .under => 0
  | .over => 1
  | .unstable => 2
  | .noReply => 3
  | .noProfile => 4

/-- Channels in R, G, B order. -/
def chanCode : Chan → Nat
  | .r => 0
  | .g => 1
  | .b => 2

/-- HOT and SENSOR modes. -/
def ProtMode.code : ProtMode → Nat
  | .latched => 0
  | .retry => 1
  | .report => 2
  | .off => 3

/-- LOST policies in the order of R136. -/
def LostPolicy.code : LostPolicy → Nat
  | .auto => 0
  | .onClear => 1

/-- Budget modes in the order of R147. -/
def BudgetMode.code : BudgetMode → Nat
  | .next => 0
  | .below => 1
  | .count => 2
  | .report => 3

/-- Budget states in the order of R147. -/
def BudgetState.code : BudgetState → Nat
  | .off => 0
  | .clear => 1
  | .tripped => 2

/-- Sweep states in the order of R163. -/
def SweepState.code : SweepState → Nat
  | .none => 0
  | .running => 1
  | .waiting => 2

/-- The last change in the order of R177. -/
def LastChange.code : LastChange → Nat
  | .claim => 0
  | .release => 1
  | .lapse => 2
  | .handover => 3
  | .reset => 4

/-- Ports in the order of R25 and R163. -/
def portCode : Port → Nat
  | .prog .A => 0
  | .prog .B => 1
  | .service => 2

/-- The authority state in the order of R177. -/
def holderCode : Option Prog → Nat
  | none => 0
  | some .A => 1
  | some .B => 2

/-- Roles in the order of R63. -/
def Role.code : Role → Nat
  | .primary => 0
  | .fallback => 1

/-- A condition: ACTIVE, INACTIVE in the order of R123. -/
def condCode (b : Bool) : Nat := if b then 0 else 1

/-- The slot or EMPTY of a map content (R204). -/
def contentCode : Option Slot → Nat
  | none => 255
  | some i => i.val

/-- The token in the order of R199: NONE, SWEEP, RELEARN. -/
def Token.code : Token → Nat
  | .free => 0
  | .sweep _ => 1
  | .relearn _ => 2

/-- The issuing port of the job that holds the token. -/
def Token.issuer : Token → Option Port
  | .free => none
  | .sweep p => some p
  | .relearn p => p

/-! ## STATUS and RESULT -/

/-- The response of STATUS (R197, R203). -/
def statusBytes (r : PortRec) : List Byte :=
  yesNo r.busy.isSome
    ++ [match r.busy with | some n => n.code | none => 0]
    ++ [match r.result with | some b => b.request.code | none => 0]
    ++ u8 (match r.result with | some b => b.verdict.code | none => 0)
    ++ u8 (match r.result with | some b => (match b.reason with | some w => w.code | none => 0) | none => 0)
    ++ yesNo r.abortRequested
    ++ yesNo r.overrun
    ++ noticeSet r.pending
    ++ noticeSet r.mask

/-- The four settings of one class as they stand in the settings record (R136). -/
def classItems (c : ClassSettings) : List Item :=
  [.always (u8 c.mode.code), .always (u8 c.action.code), .always (u16 c.dim), .always (u8 c.retry)]

/-- The show record (R184, R205). -/
def showItems (r : ShowRec) : List Item :=
  [.always (u16 r.m), .always (rgb u16 r.want), .always (u16 r.floorRatio), opt 1 s8 r.ambient, .always (u8 r.timeout)]

/-- The temperature settings (R76). -/
def tempItems (x : TempSettings) : List Item :=
  [.always (u8 x.w), .always (s8 x.hotLimit), .always (s8 x.tripLimit), .always (s8 x.hysteresis)]

/-- The slew settings (R120). -/
def slewItems (x : SlewSettings) : List Item :=
  [.always (u16 x.stepUp), .always (u16 x.stepDown), .always (u16 x.tolerance)]

/-- The protection and chain settings in the order of R136. -/
def protectItems (x : ProtSettings) (missLimit roundInterval : Nat) : List Item :=
  classItems x.hot ++ classItems x.sensor
    ++ [.always (u8 (if x.shortReport then 2 else 3)), .always (u8 x.lostPolicy.code), .always (u8 missLimit),
      .always (u16 roundInterval)]

/-- The budget settings in the order of R148. -/
def budgetItems (x : BudgetSettings) : List Item :=
  [.always (u16 x.budget), .always (u8 x.mode.code), .always (u8 x.hysteresis), .always (u8 x.count)]

/-- A slot field. -/
def slotField (i : Slot) : List Byte := u8 i.val

/-- The result data of a request, laid out as a record of its fields (R193, R203). The cancelled job of RESTART-CHAIN is its position
in R189's list: SWEEP 0, RELEARN 1, none 2. The slot 'or none' of PUT-PROFILE and DROP-PROFILE (R37, R38), to which no rule gives a code
for none, is an optional field, absent for none (DESIGN CHOICE, log entry 18). -/
def ResultData.items : ResultData → List Item
  | .nothing => []
  | .claim h f => [.always (u8 (holderCode h)), .always (yesNo f)]
  | .release h => [.always (u8 (holderCode h))]
  | .shown r => showItems r
  | .frozen y => [.always (yesNo y)]
  | .budget set st sb e => budgetItems set ++ [.always (u8 st.code), .always (u16 sb), .always (u24 e)]
  | .putProfile k i => [.always (u8 k), opt 1 slotField i]
  | .dropProfile k i => [.always (u8 k), opt 1 slotField i]
  | .putMap x b a =>
    [.always (u8 x.col.val), .always (u8 x.row.val), .always (u8 (contentCode b)), .always (u8 (contentCode a))]
  | .clearMap n => [.always (u8 n)]
  | .track i o g m ga =>
    [.always (slotField i), opt 1 (fun y : TrackMode => u8 y.code) o, .always (rgb u16 g),
      opt 1 (fun y : TrackMode => u8 y.code) m, opt 6 (rgb u16) ga]
  | .slew x => slewItems x
  | .temp x => tempItems x
  | .protect x a b => protectItems x a b
  | .cleared a b c d e => [.always (u8 a), .always (u8 b), .always (u16 c), .always (u8 d), .always (u16 e)]
  | .sweep a b c d l o => [.always (u8 a), .always (u8 b), .always (u8 c), .always (u8 d), opt 1 slotField l, .always (u8 o)]
  | .relearn n => [.always (u8 n)]
  | .restart j n => [.always (u8 (match j with | some .sweep => 0 | some .relearn => 1 | none => 2)), .always (u8 n)]
  | .notice m => [.always (noticeSet m)]

/-- The response of RESULT (R196, R203): request, outcome, reason, length and result data; all 0 for NONE. -/
def resultBytes (r : PortRec) : List Byte :=
  match r.result with
  | none => [0, 0, 0, 0, 0]
  | some b =>
    let data := encode b.data.items
    [b.request.code] ++ u8 b.verdict.code ++ u8 (match b.reason with | some w => w.code | none => 0)
      ++ u16 data.length ++ data

/-! ## The records of READ -/

/-- The slot record of section 1.2; fields not present in the slot's state are absent (R19). -/
def slotItems (c : SlotRec) : List Item :=
  let lost := c.state == .lost
  let vacant := c.state == .vacant
  [ .always (u8 c.state.code)
  , opt 6 (fun x : Serial => u48 x.toNat) c.serial
  , .always (u8 c.missCount)
  , .always (u8 c.bound)
  , opt 1 (fun x : UnprofReason => u8 x.code) c.reason
  , opt 1 yesNo (if vacant then none else some c.polled)
  , opt 1 (fun x : FormerState => u8 x.code) c.former
  , opt 1 yesNo (if lost then some c.answering else none)
  , opt 6 (rgb u16) c.pending
  , opt 6 (rgb u16) c.confirmed ]

/-- A neighbour field (R60): absent while the position is UNMAPPED. -/
def neighbourItem (s : State) (i : Slot) (d : Direction) : Item :=
  match neighbour s i d with
  | .unmapped => .optional false [0]
  | .edge => .optional true [Config.edgeByte]
  | .empty => .optional true [Config.emptyNeighbourByte]
  | .slot n => .optional true (slotField n)

/-- Position and neighbours (R60). An UNMAPPED position is an absent optional field, since R203 gives UNMAPPED no code (DESIGN CHOICE,
log entry 18). -/
def placeItems (s : State) (i : Slot) : List Item :=
  [ opt 2 (fun x : Pos => u8 x.col.val ++ u8 x.row.val) (s.inverse.get i)
  , neighbourItem s i .north, neighbourItem s i .east, neighbourItem s i .south, neighbourItem s i .west ]

/-- Chain and origins of the working or partial profile, and the working profile's tracking mode (R41, R121). DEFAULT is
origin 0, the index that names no record. The partial profile of NOPROFILE and DUPSERIAL, for which no chain is walked, is shown with a
chain of 0 entries, present and not absent, and a luminance group that no record supplied with origin 0 (DESIGN CHOICE, log entry
18). -/
def profileItems (h : Held) : List Item :=
  let w : Option Working := match h with | .none => Option.none | .full w => some w | .part w => some w
  let origin (f : Working → Option Nat) : Item := opt 1 (fun x : Working => u8 ((f x).getD 0)) w
  [ opt 5 (fun x : Working => listField 4 x.chain) w
  , origin (·.luminanceFrom), origin (·.thermalFrom), origin (·.ageingFrom), origin (·.powerFrom)
  , origin (·.tempSourceFrom), origin (·.modeFrom)
  , opt 1 (fun x : Working => u8 x.mode.code) h.working ]

/-- The temperature record of R63, with the block's size 2^w (R78). R205 gives that number no place; it stands here behind the sample
count, before Teff (DESIGN CHOICE, log entry 18). -/
def temperatureItems (w : Nat) (present : Bool) (r : TempRec) : List Item :=
  let shown {α : Type} (x : α) : Option α := if present then some x else none
  [ (match r.own with
      | .absent => .optional false [0]
      | .none => .optional true [Config.noReadingByte]
      | .value t => .optional true (s8 t))
  , opt 1 yesNo r.fault
  , opt 1 yesNo (shown r.ownValid)
  , (match r.source with
      | .absent => .optional false [0]
      | .none => .optional true (u8 7)
      | .source x => .optional true (u8 x.code))
  , opt 1 (fun x : Role => u8 x.code) r.role
  , opt 1 slotField r.lending
  , opt 1 s8 r.lastSample
  , opt 2 s16 (shown r.sum)
  , opt 1 u8 (shown r.count)
  , opt 1 u8 (shown (2 ^ w))
  , opt 1 s8 r.teff ]

/-- The engine record of R83, with lit hours, load and power term (R75, R159). The contributing flag of a LOST slot is shown clear
(R103), though the record of a newly LOST slot stands until the next recomputation (R83) (DEDUCED, log entry 34). -/
def engineItems (t : Tile) : List Item :=
  let r := t.eng
  let shown {α : Type} (x : α) : Option α := if t.present then some x else none
  [ opt 1 (fun x : RefSet => u8 x.code) r.refSet
  , opt 1 yesNo r.senseAbsent
  , opt 2 s16 r.delta
  , opt 6 (rgb u16) r.fth
  , opt 3 u24 r.hs
  , opt 6 (rgb u16) r.fag
  , opt 9 (rgb u24) r.e
  , opt 1 yesNo (shown (r.contributing && t.chain.state != .lost))
  , opt 4 (listField 3) (r.failing.map fun cs => cs.map chanCode)
  , opt 6 (rgb u16) r.gt
  , opt 2 u16 r.computedAt
  , opt 6 (rgb u16) r.gainsUsed
  , opt 2 u16 r.mUsed
  , opt 2 u16 r.pUsed
  , opt 2 u16 r.sbUsed
  , opt 1 (fun x : FormedBy => u8 x.code) r.formedBy
  , opt 3 u24 r.hours
  , opt 1 u8 r.load
  , opt 2 u16 (if t.formed then r.powerTerm else none) ]

/-- The slew record of R105, with the mode in force and its origin, OVERRIDE or PROFILE (R121). Manual gains and first-set flag always
hold a value, and are shown in every slot state, VACANT included (DESIGN CHOICE, log entry 18). -/
def slewRecItems (t : Tile) : List Item :=
  let r := t.slew
  [ opt 6 (rgb u16) r.ga
  , opt 1 (fun x : TrackMode => u8 x.code) r.override
  , .always (rgb u16 r.manual)
  , .always (yesNo r.firstSet)
  , opt 3 (rgb fun x : SlewStatus => u8 x.code) r.status
  , opt 1 (fun x : TrackMode => u8 x.code) t.mode
  , opt 1 (fun _ : TrackMode => u8 (if r.override.isSome then 0 else 1)) t.mode ]

/-- A retry timer (R123, R143): STOPPED 0 or RUNNING 1, with its remaining time while RUNNING. The byte of the state before an optional
time is the form of a liveness timer in the authority record (DESIGN CHOICE, log entry 18). -/
def retryItems (present : Bool) (a : Act) : List Item :=
  [ .optional present (u8 (if present && a.timer.isSome then 1 else 0))
  , opt 3 u24 (if present then a.timer else none) ]

/-- The protection record of R123, absent for a VACANT slot (R143), with the LOST policy. -/
def protItems (policy : LostPolicy) (present : Bool) (r : ProtRec) : List Item :=
  let shown {α : Type} (x : α) : Option α := if present then some x else none
  let each (f : Cond → List Byte) : List Item := r.conds.map fun c => opt 1 f (shown c)
  each (fun c => u8 (condCode c.cond)) ++ each (fun c => yesNo c.active) ++ each (fun c => yesNo c.latched)
    ++ [ opt 1 (fun x : Action => u8 x.code) (shown r.hotAct.kind)
       , opt 1 (fun x : Action => u8 x.code) (shown r.sensorAct.kind)
       , opt 1 (fun b : Bool => u8 (if b then 1 else 0)) (shown r.overheatBlank)
       , opt 2 u16 r.hotAct.dim
       , opt 2 u16 r.sensorAct.dim ]
    ++ retryItems present r.hotAct ++ retryItems present r.sensorAct
    ++ [ opt 1 (fun x : ProbeReason => u8 x.code) r.probeReason
       , opt 1 (fun x : Chan => u8 (chanCode x)) r.probeChan
       , opt 2 u16 (shown r.p)
       , .always (u8 policy.code) ]

/-- The tile record of slot `i` (R205). -/
def tileItems (s : State) (i : Slot) : List Item :=
  let t := s.tile i
  [.always (slotField i)] ++ slotItems t.chain ++ placeItems s i ++ profileItems t.held
    ++ temperatureItems s.tempSet.w t.present t.temp ++ engineItems t ++ slewRecItems t
    ++ protItems s.protSet.lostPolicy t.present t.prot

/-- The number of slots with a property. -/
def State.countTiles (s : State) (p : Tile → Bool) : Nat := s.tiles.count p

/-- Unplaced tiles (R61): slots that are not VACANT and are UNMAPPED. -/
def unplaced (s : State) : Nat := (slots.filter fun i => (s.tile i).present && (s.inverse.get i).isNone).length

/-- Placed vacancies (R61): entries that name a VACANT slot. -/
def placedVacancies (s : State) : Nat :=
  s.store.map.count fun c => match c.names with | some i => !(s.tile i).present | none => false

/-- The slot bears an action of this kind (R144); OVERHEAT's BLANK counts under BLANK. -/
def bears (k : Action) (t : Tile) : Bool :=
  t.prot.hotAct.kind == k || t.prot.sensorAct.kind == k || (k == .blank && t.prot.overheatBlank)

/-- The number of slots with a flag of each of the six conditions (R144), in the order in which R123 names the conditions. -/
def flagCounts (s : State) (f : Cond → Bool) : List Item :=
  [ .always (u8 (s.countTiles fun t => f t.prot.hot))
  , .always (u8 (s.countTiles fun t => f t.prot.overheat))
  , .always (u8 (s.countTiles fun t => f t.prot.sensor))
  , .always (u8 (s.countTiles fun t => f t.prot.lost))
  , .always (u8 (s.countTiles fun t => f t.prot.short))
  , .always (u8 (s.countTiles fun t => f t.prot.probe)) ]

/-- The engine fields of the wall record (R102). -/
def wallItems (w : WallRec) : List Item :=
  [ .always (u16 w.number)
  , .always (rgb u16 w.wantInUse)
  , .always (u16 w.floorRatioInUse)
  , opt 6 (rgb u16) w.floors
  , .always (u8 w.contributing)
  , .always (u8 w.short)
  , opt 9 (rgb u24) w.minE
  , opt 12 (rgb u32) w.scales
  , .always (u16 w.s)
  , .always (u8 (match w.limiting with | some c => chanCode c | none => 3))
  , opt 3 (rgb slotField) w.limitingSlots
  , .always (rgb u16 w.target) ]

/-- The budget fields of the wall record (R159). -/
def budgetFields (b : Budget) : List Item :=
  [ .always (u8 b.state.code)
  , .always (u16 b.sb)
  , .always (u24 b.estimate)
  , .always (u16 b.candidate)
  , .always (u8 b.hold)
  , .always (yesNo b.active)
  , .always (yesNo b.latched)
  , .always (u16 b.trips)
  , opt 3 u24 (if b.set.budget = 0 then none else some b.set.threshold) ]

/-- Where the current probe step stands: channel, range and phase 0 PATCH, 1 SETTLE, 2 SENSE, 3 OFF (R163). The range is 0 before
the first SENSE, and in OFF it is that of the latest SENSE (DEDUCED, log entry 28). -/
def probePlace (s : State) : Option (Chan × Nat × Nat) :=
  if ownProbe s then
    match s.chain.activity with
    | .patch _ c => some (c, 0, 0)
    | .settle _ c => some (c, 0, 1)
    | .sense _ c r => some (c, r, 2)
    | .patchOff _ c r _ => some (c, r, 3)
    | _ => none
  else none

/-- The sweep record (R163). -/
def sweepItems (s : State) : List Item :=
  let w := s.sweep
  let place := probePlace s
  [ .always (u8 w.state.code)
  , opt 1 (fun p : Port => u8 (portCode p)) w.issuer
  , opt 1 (fun x : SweepParams => slotField x.first) w.params
  , opt 1 (fun x : SweepParams => slotField x.last) w.params
  , opt 1 (fun x : SweepParams => chanSet x.chans) w.params
  , opt 1 u8 w.cursor
  , opt 1 slotField w.tile
  , opt 1 (fun x : Chan × Nat × Nat => u8 (chanCode x.1)) place
  , opt 1 (fun x : Chan × Nat × Nat => u8 x.2.1) place
  , opt 1 (fun x : Chan × Nat × Nat => u8 x.2.2) place
  , opt 1 s8 w.tsense
  , opt 3 u24 w.hsense
  , opt 2 u16 w.readings.r, opt 2 u16 w.readings.g, opt 2 u16 w.readings.b
  , .always (u8 w.measured), .always (u8 w.failed), .always (u8 w.skipped), .always (u8 w.passed)
  , .always (u8 w.outstanding)
  , opt 1 slotField w.lastReached ]

/-- The wall record (R205). No rule orders the slot counts of R19: they stand in the order in which section 1.2 lists the states,
VACANT, JOINING, ACTIVE, UNPROFILED, LOST. R144 has no table: the six counts of active flags stand first and the six of latched flags behind them. No
rule gives 'no port' as the token's issuing port (R199) a code: the issuing port is an optional field, absent for a free token and for
a RELEARN that belongs to no port (all three DESIGN CHOICE, log entry 18). -/
def wallRecordItems (s : State) : List Item :=
  let n (x : SlotState) : Item := .always (u8 (s.countTiles fun t => t.chain.state == x))
  [ n .vacant, n .joining, n .active, n .unprofiled, n .lost
  , .always (u8 s.chain.tileCount)
  , .always (yesNo s.chain.chainLong)
  , .always (u8 s.store.mapped), .always (u8 (unplaced s)), .always (u8 (placedVacancies s)) ]
    ++ wallItems s.wall
    ++ flagCounts s (·.active) ++ flagCounts s (·.latched)
    ++ [ .always (u8 (s.countTiles (bears .hold))), .always (u8 (s.countTiles (bears .dim)))
       , .always (u8 (s.countTiles (bears .blank))), .always (u8 (s.countTiles fun t => decide (t.prot.p < 4096))) ]
    ++ budgetFields s.budget
    ++ sweepItems s
    ++ [ .always (u8 s.token.code), opt 1 (fun p : Port => u8 (portCode p)) s.token.issuer ]

/-- A liveness timer: STOPPED 0, RUNNING 1, EXPIRED 2, with its remaining time while RUNNING (R177). -/
def timerItems : LTimer → List Item
  | .stopped => [.always (u8 0), .optional false [0, 0]]
  | .running ms => [.always (u8 1), .optional true (u16 ms)]
  | .expired => [.always (u8 2), .optional false [0, 0]]

/-- The authority record (R177), with the show record in its place: of the show key only whether one is held. -/
def authorityItems (a : Authority) (r : ShowRec) : List Item :=
  [ .always (u8 (holderCode a.holder))
  , opt 1 (fun q : Prog => u8 (portCode (.prog q))) a.standby ]
    ++ timerItems a.timerA ++ timerItems a.timerB
    ++ [ .always (yesNo a.key.isSome), .always (yesNo a.key.isSome) ] ++ showItems r
    ++ [ .always (u8 a.lastChange.code), .always (u16 a.changes) ]

/-- The operation of a write in the order of R25. -/
def WriteOp.code : WriteOp → Nat
  | .putProfile _ _ => 0
  | .dropProfile _ => 1
  | .senseWrite _ => 2
  | .putMap _ _ => 3
  | .clearMap => 4

/-- The number by which a write's target is named in Config.targetCode. -/
def WriteOp.target : WriteOp → Nat
  | .putProfile k _ => k - 1
  | .dropProfile k => k - 1
  | .senseWrite w => w.index - 1
  | .putMap x _ => 256 + 16 * x.row.val + x.col.val
  | .clearMap => 512

/-- A profile index that holds a record of this kind. -/
def ofKind (k : ProfileKind) (c : ProfileCell) : Bool :=
  match c with
  | .good r => r.kind == k
  | .empty => false
  | .failing => false

/-- Records held (R25). -/
def Store.held (st : Store) : Nat := st.profiles.count fun c => ofKind .tile c || ofKind .base c

/-- The store status record (R25). -/
def storeItems (st : Store) : List Item :=
  [ .always (u8 (if st.writing then 1 else 0))
  , opt 1 (fun w : StoreWrite => u8 w.op.code) st.write
  , opt 2 (fun w : StoreWrite => u16 (Config.targetCode w.op.target).toNat) st.write
  , opt 1 (fun w : StoreWrite => u8 (match w.issuer with | some p => portCode p | none => 3)) st.write
  , .always (u8 st.queue.length)
  , .always (u8 st.held)
  , .always (u8 (st.profiles.count (ofKind .tile))), .always (u8 (st.profiles.count (ofKind .base)))
  , .always (u8 st.profileLosses), .always (u16 st.mapLosses)
  , .always (listField 96 st.lost) ]

/-- The settings record (R205). -/
def settingsItems (s : State) : List Item :=
  tempItems s.tempSet ++ slewItems s.slewSet ++ protectItems s.protSet s.chain.missLimit s.chain.roundInterval
    ++ budgetItems s.budget.set

/-- The 48-byte profile image (R205): an absent group reads as 0. -/
def profileImage (r : Profile) : List Byte :=
  let grp {α : Type} (n : Nat) (f : α → List Byte) (x : Option α) : List Byte :=
    match x with
    | some v => f v
    | none => List.replicate n 0
  u8 (match r.kind with | .tile => 0 | .base => 1)
    ++ u8 (bitsByte [r.serial.isSome, r.link.isSome, r.luminance.isSome, r.thermal.isSome, r.ageing.isSome, r.href.isSome,
        r.power.isSome, r.tempSource.isSome])
    ++ u8 (bitsByte [r.mode.isSome, r.sense.isSome])
    ++ grp 6 (fun x : Serial => u48 x.toNat) r.serial
    ++ grp 1 u8 r.link
    ++ grp 7 (fun x : Luminance => rgb u16 x.lref ++ s8 x.tref) r.luminance
    ++ grp 6 (rgb u16) r.thermal
    ++ grp 6 (rgb u16) r.ageing
    ++ grp 3 u24 r.href
    ++ grp 2 u16 r.power
    ++ grp 3 (fun x : TempSource => u8 x.primary.code ++ u8 x.fallback.code ++ s8 x.fixed) r.tempSource
    ++ grp 1 (fun x : TrackMode => u8 x.code) r.mode
    ++ grp 10 (fun x : SenseSet => rgb u16 x.lsense ++ s8 x.tsense ++ u24 x.hsense) r.sense

/-- A read status (R203). -/
inductive ReadStatus where
  | ok
  | range
  | empty
  deriving DecidableEq, Repr

/-- The code of a read status. -/
def ReadStatus.code : ReadStatus → Nat
  | .ok => 0
  | .range => 1
  | .empty => 2

/-- The record a READ names, with its read status (R202): a response with RANGE or EMPTY carries no record bytes. The index is
the two bytes' number, or col and row for a map entry. -/
def readRecord (s : State) (kind i0 i1 : Nat) : ReadStatus × List Byte :=
  let index := i0 * 256 + i1
  match kind with
  | 1 =>
    match slotOf index with
    | some i => (.ok, encode (tileItems s i))
    | none => (.range, [])
  | 2 => (.ok, encode (wallRecordItems s))
  | 3 => (.ok, encode (showItems s.showRec))
  | 4 => (.ok, encode (authorityItems s.auth s.showRec))
  | 5 =>
    if 1 ≤ index ∧ index ≤ 96 then
      match s.store.profile index with
      | some r => (.ok, u8 index ++ profileImage r)
      | none => (.empty, [])
    else (.range, [])
  | 6 =>
    match posOf i0 i1 with
    | some x =>
      let c := s.store.entry x
      (.ok, encode
        [ .always (u8 x.col.val), .always (u8 x.row.val), .always (u8 (contentCode c))
        , opt 1 (fun i : Slot => u8 (s.tile i).chain.state.code) c ])
    | none => (.range, [])
  | 7 => (.ok, encode (storeItems s.store))
  | 8 => (.ok, encode (settingsItems s))
  | _ => (.range, [])

/-- The response of READ (R202, R203): read status, length and record. -/
def readBytes (s : State) (kind i0 i1 : Nat) : List Byte :=
  let x := readRecord s kind i0 i1
  u8 x.1.code ++ u16 x.2.length ++ x.2

end Sys2Proof.Machine
end

