-- ==== Sys2Proof/Machine/PortCommands.lean ====
section
/-! DEFINITION. The transactions STATUS, READ, RESULT and ABORT, a discarded transaction, SET-NOTICE, and a POST that names no
request (R191, R194, R196 to R198, R201, R202). -/

namespace Sys2Proof.Machine

/-- The port record with the bytes returned to a transaction. -/
def PortRec.respond (r : PortRec) (bs : List Byte) : PortRec := { r with response := bs }

/-- The pending set emptied and overrun cleared (R197). -/
def PortRec.drawn (r : PortRec) : PortRec := { r with pending := {}, overrun := false }

/-- STATUS on port `p` (R197): the values are drawn, and then the pending set is emptied and overrun is cleared. -/
def doStatus (p : Port) (s : State) : State :=
  s.putPort p ((s.port p).drawn.respond (statusBytes (s.port p)))

/-- READ on port `p` (R202). -/
def doRead (p : Port) (kind i0 i1 : Byte) (s : State) : State :=
  s.putPort p ((s.port p).respond (readBytes s kind.toNat i0.toNat i1.toNat))

/-- RESULT on port `p` (R196). -/
def doResult (p : Port) (s : State) : State :=
  s.putPort p ((s.port p).respond (resultBytes (s.port p)))

/-! ## ABORT -/

/-- Abort requested is set (R198). -/
def PortRec.askAbort (r : PortRec) : PortRec := { r with abortRequested := true }

/-- Abort requested is set at port `p` (R198). -/
def askAbort (p : Port) (s : State) : State := s.putPort p (s.port p).askAbort

/-- ABORT of a waiting CLAIM (R181): it ends at once, and the standby is removed. -/
def abortClaim (p : Port) (s : State) : State :=
  let s := s.setAuth { s.auth with standby := none }
  (complete p .claim .aborted (some .byPort) .nothing s).noticeAll { auth := true }

/-- An enumeration is in progress: an ENUM is in flight. -/
def Activity.enumerating : Activity → Bool
  | .enum _ => true
  | .idle => false
  | .poll _ => false
  | .adopt _ => false
  | .patch _ _ => false
  | .settle _ _ => false
  | .sense _ _ _ => false
  | .patchOff _ _ _ _ => false
  | .push _ _ => false

/-- ABORT of a RELEARN (R22): at once while it waits to send ENUM 0, else at the reply or window expiry of the ENUM in
flight. -/
def abortRelearn (p : Port) (s : State) : State :=
  if s.chain.activity.enumerating then askAbort p s
  else endRelearn .aborted (some .byPort) .nothing s

/-- ABORT of the request in progress (the table of R198). -/
def abortRequest (p : Port) (name : ReqName) (s : State) : State :=
  match name with
  | .claim => abortClaim p s
  | .sweep => abortSweep p s
  | .relearn => abortRelearn p s
  | _ => askAbort p s

/-- ABORT on port `p` (R198): discarded on an IDLE slot, without effect where one has already been taken. -/
def doAbort (p : Port) (s : State) : State :=
  match (s.port p).busy with
  | none => s
  | some name => if (s.port p).abortRequested then s else abortRequest p name s

/-! ## SET-NOTICE and a POST that names no request -/

/-- SET-NOTICE (R201): it sets the issuing port's mask alone. -/
def doSetNotice (p : Port) (mask : Notices) (s : State) : State :=
  finish p .setNotice (.notice mask) (s.putPort p { s.port p with mask := mask })

/-- A POST whose request code names no request (R193, R194): discarded with overrun on a BUSY slot, else REFUSED RANGE with
none of stages 1 to 3 applied. -/
def unknownPost (p : Port) (code : Byte) (s : State) : State :=
  if (s.port p).busy.isSome then s.putPort p { s.port p with overrun := true }
  else refuse p (.unnamed code) .range s

/-- STATUS (R197). -/
def execStatus (p : Port) (s : State) : Host.Outcome State Fault Refusal :=
  .next (transaction p (doStatus p) s)

/-- READ (R202). -/
def execRead (p : Port) (kind i0 i1 : Byte) (s : State) : Host.Outcome State Fault Refusal :=
  .next (transaction p (doRead p kind i0 i1) s)

/-- RESULT (R196). -/
def execResult (p : Port) (s : State) : Host.Outcome State Fault Refusal :=
  .next (transaction p (doResult p) s)

/-- ABORT (R198). -/
def execAbort (p : Port) (s : State) : Host.Outcome State Fault Refusal :=
  .next (transaction p (doAbort p) s)

/-- A discarded transaction (R191): it changes no state of the request unit and still counts as traffic. -/
def execDiscardedTransaction (p : Port) (s : State) : Host.Outcome State Fault Refusal :=
  .next (transaction p id s)

/-- SET-NOTICE (R201). -/
def execSetNotice (p : Port) (block : List Byte) (s : State) : Host.Outcome State Fault Refusal :=
  .next (posted .setNotice p (readNotice block) (doSetNotice p) s)

/-- A POST that names no request (R194). The codes 1 to 19 name requests, and a term that carries one of them stands for no
command. -/
def execUnknownRequestPost (p : Port) (code : Byte) (_ : List Byte) (s : State) : Host.Outcome State Fault Refusal :=
  .next (if requestCodeNamed code then s else transaction p (unknownPost p code) s)

end Sys2Proof.Machine
end

