-- ==== Sys2Proof/Machine/Reset.lean ====
section
/-! DEFINITION. Hard reset and its end: every block's hard-reset state, startup verification, the inverse, and the startup
RELEARN (R24, R30, R31, R49, R51, R79, R104, R122, R146, R160, R163, R190 to R192). -/

namespace Sys2Proof.Machine

/-- The part while a hard reset lasts: every block in its hard-reset state, the store's areas kept less what a write cut off has
left (R30), and no job begun. The inverse, which R51 builds at the end of verification, has every slot UNMAPPED until then, the token is
free and the chain controller idle (DESIGN CHOICE, log entry 35). The queue of commands is the model's own and stands. -/
def underReset (cut : List CutOutcome) (s : State) : State :=
  { inReset := true
    ports := ⟨PortRec.reset, PortRec.reset, PortRec.reset⟩
    store := s.store.hardReset cut
    pending := s.pending }

/-- The pending set a port starts with (R192): START, with STORE where verification counted a loss. -/
def startNotices (st : Store) : Notices :=
  { start := true, store := st.profileLosses != 0 || st.mapLosses != 0 }

/-- The end of a hard reset (R31): the store is verified, the inverse is built, the ports begin to take transactions, and the
startup RELEARN begins with ENUM 0. -/
def endReset (s : State) : State :=
  let store := s.store.verify
  let port : PortRec := { pending := startNotices store }
  { s with
    inReset := false
    store := store
    inverse := buildInverse store.map
    ports := ⟨port, port, port⟩
    token := .relearn none
    chain := { s.chain with activity := .enum 0 } }

/-- A hard reset (R24): at power-up it runs to its end, and while RESETn is low it lasts until RESETn is released. -/
def execHardReset (cause : ResetCause) (cut : List CutOutcome) (s : State) : Host.Outcome State Fault Refusal :=
  .next (match cause with
    | .powerUp => endReset (underReset cut s)
    | .resetnLow => underReset cut s)

/-- RESETn goes high (R31, R191). With RESETn high already there is nothing to release. -/
def execResetnRelease (s : State) : Host.Outcome State Fault Refusal :=
  .next (if s.inReset then endReset s else s)

end Sys2Proof.Machine
end

