-- ==== Sys2Proof/Machine/StoreRequests.lean ====
section
/-! DEFINITION. The store's requests: PUT-PROFILE, DROP-PROFILE, PUT-MAP and CLEAR-MAP, and the completion of a store write (R29,
R32 to R38, R53 to R56). -/

namespace Sys2Proof.Machine

/-- The lowest-numbered empty index (R35). -/
def Store.lowestEmpty (st : Store) : Option Nat :=
  profileIndices.find? fun k => (st.profile k).isNone

/-- Another index holds a TILE record with the same serial (R34). -/
def Store.serialElsewhere (st : Store) (k : Nat) (r : Profile) : Bool :=
  r.kind == .tile && profileIndices.any fun i => i != k &&
    (match st.profile i with | some q => q.kind == .tile && q.serial == r.serial | none => false)

/-- The index holds a BASE record. -/
def Store.isBase (st : Store) (k : Nat) : Bool :=
  match st.profile k with
  | some q => q.kind == .base
  | none => false

/-- Conditions 3 to 5 of R34 for record `r` at index `k`: the reason of the first that refuses. -/
def putRefusal (st : Store) (k : Nat) (r : Profile) : Option Reason :=
  if st.serialElsewhere k r then some .dupSerial
  else if st.isBase k && r.kind == .tile && st.linkedTo k then some .inUse
  else if !linksOk st k r then some .badLink
  else none

/-- The sense set the written record takes (R33). -/
def keptSense (st : Store) (k : Nat) (d : Disposition) (r : Profile) : Option SenseSet :=
  match r.kind, d with
  | .base, _ => none
  | .tile, .clear => none
  | .tile, .supply => r.sense
  | .tile, .keep =>
    match st.profile k with
    | some q => if q.kind = .tile ∧ q.serial = r.serial then q.sense else none
    | none => none

/-- PUT-PROFILE at index `k` once STOREBUSY and FULL are past (R34 to R37). -/
def putAt (p : Port) (k : Nat) (x : PutBlock) (s : State) : State :=
  match putRefusal s.store k x.record with
  | some why => refuse p .putProfile why s
  | none =>
    hold p .putProfile
      (beginWrite (.putProfile k { x.record with sense := keptSense s.store k x.disposition x.record }) (some p) s)

/-- PUT-PROFILE (R34, R35): index 0 asks the store to choose. -/
def doPutProfile (p : Port) (x : PutBlock) (s : State) : State :=
  if s.store.writing then refuse p .putProfile .storeBusy s
  else if x.index = 0 then
    match s.store.lowestEmpty with
    | none => refuse p .putProfile .full s
    | some k => putAt p k x s
  else putAt p x.index x s

/-- DROP-PROFILE (R38). -/
def doDropProfile (p : Port) (k : Nat) (s : State) : State :=
  if s.store.writing then refuse p .dropProfile .storeBusy s
  else if (s.store.profile k).isNone then refuse p .dropProfile .notFound s
  else if s.store.isBase k && s.store.linkedTo k then refuse p .dropProfile .inUse s
  else hold p .dropProfile (beginWrite (.dropProfile k) (some p) s)

/-- A PUT-MAP of this content is refused INUSE (R54). -/
def mapInUse (st : Store) (x : Pos) (c : Option Slot) : Bool :=
  match c with
  | some n => st.placedElsewhere x n
  | none => false

/-- PUT-MAP (R53 to R55). -/
def doPutMap (p : Port) (x : Pos × Option Slot) (s : State) : State :=
  if s.store.writing then refuse p .putMap .storeBusy s
  else if mapInUse s.store x.1 x.2 then refuse p .putMap .inUse s
  else hold p .putMap (beginWrite (.putMap x.1 x.2) (some p) s)

/-- CLEAR-MAP (R56). -/
def doClearMap (p : Port) (_ : Unit) (s : State) : State :=
  if s.store.writing then refuse p .clearMap .storeBusy s
  else hold p .clearMap (beginWrite .clearMap (some p) s)

/-- PUT-PROFILE (R32 to R37). -/
def execPutProfile (p : Port) (block : List Byte) (s : State) : Host.Outcome State Fault Refusal :=
  .next (posted .putProfile p (readPutProfile block) (doPutProfile p) s)

/-- DROP-PROFILE (R38). -/
def execDropProfile (p : Port) (block : List Byte) (s : State) : Host.Outcome State Fault Refusal :=
  .next (posted .dropProfile p (readDrop block) (doDropProfile p) s)

/-- PUT-MAP (R53 to R55). -/
def execPutMap (p : Port) (block : List Byte) (s : State) : Host.Outcome State Fault Refusal :=
  .next (posted .putMap p (readPutMap block) (doPutMap p) s)

/-- CLEAR-MAP (R56). -/
def execClearMap (p : Port) (block : List Byte) (s : State) : Host.Outcome State Fault Refusal :=
  .next (posted .clearMap p (readEmpty block) (doClearMap p) s)

/-- A store write completes (R29). In an IDLE store there is none to complete. -/
def execStoreWriteComplete (s : State) : Host.Outcome State Fault Refusal :=
  .next (match s.store.write with
    | some w => event (completeWrite w) s
    | none => s)

end Sys2Proof.Machine
end

