-- ==== Sys2Proof/Machine/Dispatch.lean ====
section
/-! DEFINITION. Each command's meaning, one arm per constructor. -/

namespace Sys2Proof.Machine

/-- The effect of a command on everything but the queue. -/
def exec (i : Instr) (s : State) : Host.Outcome State Fault Refusal :=
  match i with
  | .hardReset cause cut => Sys2Proof.Machine.execHardReset cause cut s
  | .status p => Sys2Proof.Machine.execStatus p s
  | .read p kind idx0 idx1 => Sys2Proof.Machine.execRead p kind idx0 idx1 s
  | .result p => Sys2Proof.Machine.execResult p s
  | .abort p => Sys2Proof.Machine.execAbort p s
  | .discardedTransaction p => Sys2Proof.Machine.execDiscardedTransaction p s
  | .claim p block => Sys2Proof.Machine.execClaim p block s
  | .release p block => Sys2Proof.Machine.execRelease p block s
  | .setShow p block => Sys2Proof.Machine.execSetShow p block s
  | .freeze p block => Sys2Proof.Machine.execFreeze p block s
  | .thaw p block => Sys2Proof.Machine.execThaw p block s
  | .setBudget p block => Sys2Proof.Machine.execSetBudget p block s
  | .putProfile p block => Sys2Proof.Machine.execPutProfile p block s
  | .dropProfile p block => Sys2Proof.Machine.execDropProfile p block s
  | .putMap p block => Sys2Proof.Machine.execPutMap p block s
  | .clearMap p block => Sys2Proof.Machine.execClearMap p block s
  | .setTrack p block => Sys2Proof.Machine.execSetTrack p block s
  | .setSlew p block => Sys2Proof.Machine.execSetSlew p block s
  | .setTemp p block => Sys2Proof.Machine.execSetTemp p block s
  | .setProtect p block => Sys2Proof.Machine.execSetProtect p block s
  | .clearFaults p block => Sys2Proof.Machine.execClearFaults p block s
  | .sweep p block => Sys2Proof.Machine.execSweep p block s
  | .relearn p block => Sys2Proof.Machine.execRelearn p block s
  | .restartChain p block => Sys2Proof.Machine.execRestartChain p block s
  | .setNotice p block => Sys2Proof.Machine.execSetNotice p block s
  | .roundStart => Sys2Proof.Machine.execRoundStart s
  | .relearnEnumerationStart => Sys2Proof.Machine.execRelearnEnumerationStart s
  | .pollReply temp fault hours load echo => Sys2Proof.Machine.execPollReply temp fault hours load echo s
  | .pollMiss => Sys2Proof.Machine.execPollMiss s
  | .pushReply echo => Sys2Proof.Machine.execPushReply echo s
  | .pushMiss => Sys2Proof.Machine.execPushMiss s
  | .adoptReply serial => Sys2Proof.Machine.execAdoptReply serial s
  | .adoptNoReply => Sys2Proof.Machine.execAdoptNoReply s
  | .enumReply serial => Sys2Proof.Machine.execEnumReply serial s
  | .enumNoReply => Sys2Proof.Machine.execEnumNoReply s
  | .patchReply => Sys2Proof.Machine.execPatchReply s
  | .patchMiss => Sys2Proof.Machine.execPatchMiss s
  | .settleWaitEnd => Sys2Proof.Machine.execSettleWaitEnd s
  | .senseReply status count => Sys2Proof.Machine.execSenseReply status count s
  | .senseMiss => Sys2Proof.Machine.execSenseMiss s
  | .storeWriteComplete => Sys2Proof.Machine.execStoreWriteComplete s
  | .livenessTimerExpiry q => Sys2Proof.Machine.execLivenessTimerExpiry q s
  | .retryTimerExpiry slot cls => Sys2Proof.Machine.execRetryTimerExpiry slot cls s
  | .resetnRelease => Sys2Proof.Machine.execResetnRelease s
  | .unknownRequestPost p code block => Sys2Proof.Machine.execUnknownRequestPost p code block s

end Sys2Proof.Machine
end

