-- ==== Sys2Proof/Machine/Bus.lean ====
section
/-! DEFINITION. The two buses: which command the bytes of an SPI transaction spell (R191, R203), and the frames and replies of the
tile chain with their check value and reply windows (R7, R8, R166, R206). -/

namespace Sys2Proof.Machine

/-! ## SPI transactions -/

/-- The command of a POST with request code `code` (R203). -/
def postCommand (p : Port) (code : Byte) (block : List Byte) : Instr :=
  match code.toNat with
  | 1 => .claim p block
  | 2 => .release p block
  | 3 => .setShow p block
  | 4 => .freeze p block
  | 5 => .thaw p block
  | 6 => .setBudget p block
  | 7 => .putProfile p block
  | 8 => .dropProfile p block
  | 9 => .putMap p block
  | 10 => .clearMap p block
  | 11 => .setTrack p block
  | 12 => .setSlew p block
  | 13 => .setTemp p block
  | 14 => .setProtect p block
  | 15 => .clearFaults p block
  | 16 => .sweep p block
  | 17 => .relearn p block
  | 18 => .restartChain p block
  | 19 => .setNotice p block
  | _ => .unknownRequestPost p code block

/-- A POST from the bytes after its kind byte: discarded where its header or its block is cut short (R191). -/
def postOf (p : Port) (bs : List Byte) : Instr :=
  if 3 ≤ bs.length ∧ u16At bs 1 ≤ bs.length - 3 then
    postCommand p (bs.getD 0 0) ((bs.drop 3).take (u16At bs 1))
  else .discardedTransaction p

/-- A READ from the bytes after its kind byte. -/
def readOf (p : Port) (bs : List Byte) : Instr :=
  if 3 ≤ bs.length then .read p (bs.getD 0 0) (bs.getD 1 0) (bs.getD 2 0) else .discardedTransaction p

/-- The command that the bytes a master sends in one transaction on port `p` spell (R191, R203). -/
def spiCommand (p : Port) : List Byte → Instr
  | [] => .discardedTransaction p
  | k :: bs =>
    match k.toNat with
    | 0xA1 => .status p
    | 0xA2 => readOf p bs
    | 0xA3 => postOf p bs
    | 0xA4 => .result p
    | 0xA5 => .abort p
    | _ => .discardedTransaction p

/-! ## The check value -/

/-- One bit of the check value: the polynomial x^16 + x^12 + x^5 + 1, most significant bit first (R206). -/
def crcBit (c : BitVec 16) : BitVec 16 := if c.msb then (c <<< 1) ^^^ 0x1021#16 else c <<< 1

/-- One byte of the check value. -/
def crcByte (c : BitVec 16) (b : Byte) : BitVec 16 :=
  crcBit (crcBit (crcBit (crcBit (crcBit (crcBit (crcBit (crcBit (c ^^^ (b.zeroExtend 16 <<< 8)))))))))

/-- The check value of bytes, from an initial value of all ones (R206). -/
def checkValue (bs : List Byte) : BitVec 16 := bs.foldl crcByte 0xFFFF#16

/-- Bytes with their check value behind them. -/
def sealed (bs : List Byte) : List Byte := bs ++ u16 (checkValue bs).toNat

/-! ## Frames -/

/-- The slot number, kind code and payload of the frame in flight (R206). A settle wait and an idle chain have none. -/
def frameParts : Activity → Option (Nat × Nat × List Byte)
  | .enum n => some (n, 1, [])
  | .poll i => some (i.val, 2, [])
  | .push i c => some (i.val, 3, rgb u16 c)
  | .adopt i => some (i.val, 4, [])
  | .patch i c => some (i.val, 5, u8 (chanCode c))
  | .patchOff i _ _ _ => some (i.val, 5, u8 3)
  | .sense i _ r => some (i.val, 6, u8 r)
  | .settle _ _ => none
  | .idle => none

/-- The bytes of the frame in flight (R206). -/
def frameBytes (a : Activity) : Option (List Byte) :=
  (frameParts a).map fun x => sealed (u8 x.1 ++ u8 x.2.1 ++ x.2.2)

/-- The reply window of the frame in flight, in microseconds (R7, R166). -/
def replyWindow : Activity → Option Nat
  | .sense _ _ r => some ((5 * 4 ^ r + 10) * 1000)
  | .settle _ _ => none
  | .idle => none
  | .enum _ => some 500
  | .poll _ => some 500
  | .push _ _ => some 500
  | .adopt _ => some 500
  | .patch _ _ => some 500
  | .patchOff _ _ _ _ => some 500

/-- The settle time of a probe step, in microseconds (R166). -/
def settleTime : Nat := 20000

/-! ## Replies -/

/-- The payload of a reply to the frame in flight: its check value, slot number and kind agree (R8, R206). -/
def replyPayload (a : Activity) (bs : List Byte) : Option (List Byte) :=
  match frameParts a with
  | none => none
  | some x =>
    let body := bs.take (bs.length - 2)
    if 4 ≤ bs.length ∧ bs = sealed body ∧ byteAt bs 0 = x.1 ∧ byteAt bs 1 = x.2.1 then some (body.drop 2) else none

/-- The status of a SENSE reply (R206). A byte above 2 does not make the reply no reply, and the count decides (R167) (DEDUCED, log
entry 1). -/
def senseStatusOf : Nat → SenseStatus
  | 0 => .ok
  | 1 => .under
  | 2 => .over
  | _ => .other

/-- A POLL reply's payload (R206). Bits 2 to 7 of the flags byte, which R206 does not name, are ignored and the reply is taken (DEDUCED,
log entry 1). -/
def pollPayload (b : List Byte) : Option Instr :=
  let c : RGB Nat := rgb16At b 6
  if b.length = 12 ∧ coefFieldOk c = true then
    some (.pollReply (if bitAt b 1 1 then none else some (s8At b 0)) (bitAt b 1 0) (u24At b 2) (byteAt b 5) c)
  else none

/-- A PUSH reply's payload: the acknowledgement byte is 0x06 (R206). -/
def pushPayload (b : List Byte) : Option Instr :=
  let c : RGB Nat := rgb16At b 1
  if b.length = 7 ∧ byteAt b 0 = 6 ∧ coefFieldOk c = true then some (.pushReply c) else none

/-- A serial as a payload (R206). -/
def serialPayload (b : List Byte) : Option Serial :=
  if b.length = 6 then some (BitVec.ofNat 48 (u48At b 0)) else none

/-- The acknowledgement of a PATCH (R206). -/
def patchPayload (b : List Byte) : Option Instr :=
  if b.length = 1 ∧ byteAt b 0 = 6 then some .patchReply else none

/-- A SENSE reply's payload (R206). -/
def sensePayload (b : List Byte) : Option Instr :=
  if b.length = 3 ∧ senseCountOk (u16At b 1) = true then some (.senseReply (senseStatusOf (byteAt b 0)) (u16At b 1)) else none

/-- The command that the bytes of a reply to the frame in flight spell; none where they are no reply (R8, R206). -/
def replyCommand (a : Activity) (bs : List Byte) : Option Instr :=
  match replyPayload a bs with
  | none => none
  | some b =>
    match a with
    | .enum _ => (serialPayload b).map .enumReply
    | .poll _ => pollPayload b
    | .push _ _ => pushPayload b
    | .adopt _ => (serialPayload b).map .adoptReply
    | .patch _ _ => patchPayload b
    | .patchOff _ _ _ _ => patchPayload b
    | .sense _ _ _ => sensePayload b
    | .settle _ _ => none
    | .idle => none

/-- The command of the window's expiry, or of the end of the settle time (R7, R8, R166). -/
def expiryCommand : Activity → Option Instr
  | .enum _ => some .enumNoReply
  | .poll _ => some .pollMiss
  | .push _ _ => some .pushMiss
  | .adopt _ => some .adoptNoReply
  | .patch _ _ => some .patchMiss
  | .patchOff _ _ _ _ => some .patchMiss
  | .sense _ _ _ => some .senseMiss
  | .settle _ _ => some .settleWaitEnd
  | .idle => none

end Sys2Proof.Machine
end

