-- ==== Sys2Proof/Safety.lean ====
section
/-! DEFINITION. The terms the statements are made in: which port a command is a transaction of, when a posted request is
accepted, what a completion leaves at its port, and the invariants of the part. -/

namespace Sys2Proof.Machine

/-! ## Commands and ports -/

/-- The port whose transaction a command is (R191). -/
def transactionOn : Instr → Option Port
  | .status p => some p
  | .read p _ _ _ => some p
  | .result p => some p
  | .abort p => some p
  | .discardedTransaction p => some p
  | .claim p _ => some p
  | .release p _ => some p
  | .setShow p _ => some p
  | .freeze p _ => some p
  | .thaw p _ => some p
  | .setBudget p _ => some p
  | .putProfile p _ => some p
  | .dropProfile p _ => some p
  | .putMap p _ => some p
  | .clearMap p _ => some p
  | .setTrack p _ => some p
  | .setSlew p _ => some p
  | .setTemp p _ => some p
  | .setProtect p _ => some p
  | .clearFaults p _ => some p
  | .sweep p _ => some p
  | .relearn p _ => some p
  | .restartChain p _ => some p
  | .setNotice p _ => some p
  | .unknownRequestPost p _ _ => some p
  | .hardReset _ _ => none
  | .roundStart => none
  | .relearnEnumerationStart => none
  | .pollReply _ _ _ _ _ => none
  | .pollMiss => none
  | .pushReply _ => none
  | .pushMiss => none
  | .adoptReply _ => none
  | .adoptNoReply => none
  | .enumReply _ => none
  | .enumNoReply => none
  | .patchReply => none
  | .patchMiss => none
  | .settleWaitEnd => none
  | .senseReply _ _ => none
  | .senseMiss => none
  | .storeWriteComplete => none
  | .livenessTimerExpiry _ => none
  | .retryTimerExpiry _ _ => none
  | .resetnRelease => none

/-- The POST of request `name` on port `p` with this parameter block (R203); an unnamed code is an unknown request. -/
def postOfName (name : ReqName) (p : Port) (block : List Byte) : Instr :=
  match name with
  | .claim => .claim p block
  | .release => .release p block
  | .setShow => .setShow p block
  | .freeze => .freeze p block
  | .thaw => .thaw p block
  | .setBudget => .setBudget p block
  | .putProfile => .putProfile p block
  | .dropProfile => .dropProfile p block
  | .putMap => .putMap p block
  | .clearMap => .clearMap p block
  | .setTrack => .setTrack p block
  | .setSlew => .setSlew p block
  | .setTemp => .setTemp p block
  | .setProtect => .setProtect p block
  | .clearFaults => .clearFaults p block
  | .sweep => .sweep p block
  | .relearn => .relearn p block
  | .restartChain => .restartChain p block
  | .setNotice => .setNotice p block
  | .unnamed code => .unknownRequestPost p code block

/-- The request is one of the nineteen of R203. -/
def ReqName.isNamed : ReqName → Bool
  | .unnamed _ => false
  | _ => true

/-- The length of each request's parameter block in bytes (R204). -/
def ReqName.blockLength : ReqName → Nat
  | .claim => 1
  | .release => 0
  | .setShow => 14
  | .freeze => 4
  | .thaw => 4
  | .setBudget => 9
  | .putProfile => 50
  | .dropProfile => 1
  | .putMap => 3
  | .clearMap => 0
  | .setTrack => 9
  | .setSlew => 8
  | .setTemp => 10
  | .setProtect => 20
  | .clearFaults => 1
  | .sweep => 3
  | .relearn => 0
  | .restartChain => 0
  | .setNotice => 1
  | .unnamed _ => 0

/-- A transaction on port `p` finds RESETn high and the port's request slot IDLE. -/
def SlotFree (p : Port) (s : State) : Prop := s.inReset = false ∧ (s.port p).busy = none

/-- The POST of `name` on port `p` finds RESETn high, the slot IDLE, and passes the checks of issuer right, freeze and modal job
(stages 1 to 3 of R194). -/
def Accepts (name : ReqName) (p : Port) (s : State) : Prop := SlotFree p s ∧ admission name p s = none

/-- The ports after an event in which the request of port `p` completes with result block `r` and the classes `n` are told to
every port (R193, R200): at `p` the result block is replaced, the slot is IDLE, abort requested is clear and JOB is pending beside
what was pending; overrun, mask and response stand; every other port has only the classes `n` added. -/
def PortsAfter (p : Port) (r : ResultBlock) (n : Notices) (s t : State) : Prop :=
  t.port p = { s.port p with
      busy := none, abortRequested := false, result := some r
      pending := ((s.port p).pending.union n).union { job := true } }
    ∧ ∀ q, q ≠ p → t.port q = (s.port q).notice n

/-- A slot record that differs from another in its pending coefficients alone. -/
def SameButPending (x y : SlotRec) : Prop := y = { x with pending := y.pending }

/-- The authority unit after a transaction on port `p`: a programme port's timer is RUNNING with the full timeout held, and
nothing else has moved (R178). -/
def trafficAuth (p : Port) (s : State) : Authority :=
  match p with
  | .prog .A => { s.auth with timerA := .running (s.showRec.timeout * 50) }
  | .prog .B => { s.auth with timerB := .running (s.showRec.timeout * 50) }
  | .service => s.auth

/-- The write a request holds in progress, by the name of its operation. -/
def WriteOp.request : WriteOp → Option ReqName
  | .putProfile _ _ => some .putProfile
  | .dropProfile _ => some .dropProfile
  | .putMap _ _ => some .putMap
  | .clearMap => some .clearMap
  | .senseWrite _ => none

/-- The slot of the frame in flight whose missing reply is a miss (R7, R9). -/
def missedSlot : Activity → Option Slot
  | .poll i => some i
  | .push i _ => some i
  | .patch i _ => some i
  | .patchOff i _ _ _ => some i
  | .sense i _ _ => some i
  | .adopt _ => none
  | .settle _ _ => none
  | .enum _ => none
  | .idle => none

/-- One class of one slot before (`x`, `a`) and after (`y`, `b`) a SET-PROTECT that changes the class's mode to that of `c`: the
table of R137, with the kind and dim level of R138. -/
def ClassInLine (c : ClassSettings) (x : Cond) (a : Act) (y : Cond) (b : Act) : Prop :=
  (c.mode = .off → y = { x with active := false } ∧ b = {})
    ∧ (c.mode ≠ .off → y = ⟨x.cond, x.cond, x.latched || x.cond⟩)
    ∧ (c.mode = .report → b = {})
    ∧ (c.mode = .latched → (a.kind ≠ .none ∨ x.cond = true) →
        b = ⟨c.action.inForce, if c.action = .dim then some c.dim else none, none⟩)
    ∧ (c.mode = .retry → a.kind ≠ .none →
        b = ⟨c.action.inForce, if c.action = .dim then some c.dim else none, some (a.timer.getD (c.retry * 1000))⟩)
    ∧ (c.mode = .retry → a.kind = .none → x.cond = true →
        b = ⟨c.action.inForce, if c.action = .dim then some c.dim else none, some (c.retry * 1000)⟩)
    ∧ (c.mode = .latched ∨ c.mode = .retry → a.kind = .none → x.cond = false → b = a)

/-- One class of one slot before (`x`, `a`) and after (`y`, `b`) a SET-PROTECT that leaves the class's mode as it was, with the class's
settings then `c` (R138): the condition, its flags and the timer stand, and an action in force takes the present kind and dim
level. -/
def ClassKept (c : ClassSettings) (x : Cond) (a : Act) (y : Cond) (b : Act) : Prop :=
  y = x ∧ (a.kind = .none → b = a)
    ∧ (a.kind ≠ .none → b = ⟨c.action.inForce, if c.action = .dim then some c.dim else none, a.timer⟩)

/-- What a CLEAR-FAULTS covering the slot makes of its tile (R16, R141): `x` before, `y` after, with P brought up to date (R134). -/
def Acknowledged (c : ProtSettings) (x y : Tile) : Prop :=
  (∀ f, x.chain.state = .lost → x.chain.answering = true → x.chain.former = some f →
      SameButPending { x.chain with state := f.state, former := none, answering := false } y.chain
      ∧ y.prot.lost = ⟨false, false, false⟩)
    ∧ (x.chain.state ≠ .lost ∨ x.chain.answering = false →
      SameButPending x.chain y.chain
      ∧ y.prot.lost = { x.prot.lost with latched := x.prot.lost.latched && x.prot.lost.active })
    ∧ y.prot.probe = ⟨false, false, false⟩
    ∧ (x.prot.probe.latched = true → y.prot.probeReason = none ∧ y.prot.probeChan = none)
    ∧ y.prot.hot = { x.prot.hot with latched := x.prot.hot.latched && x.prot.hot.active }
    ∧ y.prot.sensor = { x.prot.sensor with latched := x.prot.sensor.latched && x.prot.sensor.active }
    ∧ y.prot.overheat = { x.prot.overheat with latched := x.prot.overheat.latched && x.prot.overheat.active }
    ∧ y.prot.short = { x.prot.short with latched := x.prot.short.latched && x.prot.short.active }
    ∧ (c.hot.mode = .latched → x.prot.hot.cond = false → y.prot.hotAct.kind = .none)
    ∧ ((c.hot.mode ≠ .latched ∨ x.prot.hot.cond = true) → y.prot.hotAct = x.prot.hotAct)
    ∧ (c.sensor.mode = .latched → x.prot.sensor.cond = false → y.prot.sensorAct.kind = .none)
    ∧ ((c.sensor.mode ≠ .latched ∨ x.prot.sensor.cond = true) → y.prot.sensorAct = x.prot.sensorAct)
    ∧ y.prot.overheatBlank = x.prot.overheatBlank ∧ y.prot.p = protFactor y.prot
    ∧ y.slew = x.slew ∧ y.temp = x.temp ∧ y.held = x.held

/-- LOST slots returned by a CLEAR-FAULTS (R142): `x` before. -/
def returnedBy (x _ : Tile) : Nat := if x.chain.state = .lost ∧ x.chain.answering = true then 1 else 0

/-- Latched flags cleared on a slot (R142): `x` before, `y` after. -/
def latchedLost (x y : Tile) : Nat := ((x.prot.conds.zip y.prot.conds).filter fun c => c.1.latched && !c.2.latched).length

/-- Actions of HOT and SENSOR released on a slot (R142). -/
def actionsReleased (x y : Tile) : Nat :=
  (if x.prot.hotAct.kind ≠ .none ∧ y.prot.hotAct.kind = .none then 1 else 0)
    + (if x.prot.sensorAct.kind ≠ .none ∧ y.prot.sensorAct.kind = .none then 1 else 0)

/-- Active flags that remain set on a slot (R142). -/
def stillActive (_ y : Tile) : Nat := (y.prot.conds.filter (·.active)).length

/-- A count taken over every slot that is not VACANT in `s`. -/
def overPresent (s t : State) (f : Tile → Tile → Nat) : Nat :=
  ((slots.filter fun i => (s.tile i).present).map fun i => f (s.tile i) (t.tile i)).sum

/-- The coefficients formed from gain `g` (R96): three successive divisions, each rounded down, and the cap at 4095. -/
def formed (m p sb : Nat) (g : RGB Nat) : RGB Nat :=
  let one (g : Nat) : Nat := min 4095 (g * m / 4096 * p / 4096 * sb / 4096)
  ⟨one g.r, one g.g, one g.b⟩

/-- P as a formation uses it (R97): 0 while OVERHEAT is active. -/
def usedFactor (t : Tile) : Nat := if t.prot.overheat.cond = true then 0 else t.prot.p

/-- `q` is `n` divided by `d` rounding to nearest, a half going away from zero (R1). -/
def Nearest (n : Int) (d : Nat) (q : Int) : Prop :=
  2 * (n - q * d).natAbs < d ∨ (2 * (n - q * d).natAbs = d ∧ n.natAbs < q.natAbs * d)

/-- The references of a computing tile with working profile `w` (R84): the sense set in SENSED mode where there is one, else the
profile's luminance group with its calibration hours. -/
def PickedReference (t : Tile) (w : Working) (lum : RGB Nat) (tref : Int) (href : Nat) : Prop :=
  (t.mode = some .sensed ∧ w.sense = some ⟨lum, tref, href⟩)
    ∨ ((t.mode = some .model ∨ (t.mode = some .sensed ∧ w.sense = none)) ∧ w.luminance = some ⟨lum, tref⟩ ∧ w.href = href)

/-- The tile is in the contributing set (R89). -/
def Contributes (t : Tile) : Prop :=
  t.chain.state = .active ∧ (t.mode = some .model ∨ t.mode = some .sensed) ∧ t.eng.contributing = true

/-! ## Temperature -/

/-- The reading of a POLL reply where it is valid (R64). -/
def validOwn (temp : Option Int) (fault : Bool) : Option Int :=
  match temp with
  | some v => if fault = false ∧ -40 ≤ v ∧ v ≤ 125 then some v else none
  | none => none

/-- Position `b` lies next to position `a` in the direction a source names (R58); the grid does not wrap. -/
def NextTo (x : Source) (a b : Pos) : Prop :=
  (x = .north ∧ b.col = a.col ∧ b.row.val + 1 = a.row.val) ∨ (x = .east ∧ b.row = a.row ∧ b.col.val = a.col.val + 1)
    ∨ (x = .south ∧ b.col = a.col ∧ b.row.val = a.row.val + 1) ∨ (x = .west ∧ b.row = a.row ∧ b.col.val + 1 = a.col.val)

/-- Source `x` is available to slot `i` at an arrival whose valid reading is `own`, and gives temperature `v`, lent by slot `n` where it
is a direction (R58, R67, R68). -/
def Available (s : State) (i : Slot) (own : Option Int) (x : Source) (v : Int) (n : Option Slot) : Prop :=
  (x = .own ∧ own = some v ∧ n = none) ∨ (x = .ambient ∧ s.showRec.ambient = some v ∧ n = none)
    ∨ (x = .fixed ∧ v = (s.tile i).held.groups.tempSource.fixed ∧ n = none)
    ∨ ∃ a b m, NextTo x a b ∧ s.inverse.get i = some a ∧ s.store.entry b = some m ∧ n = some m
        ∧ (s.tile m).chain.state = .active ∧ (s.tile m).temp.ownValid = true ∧ (s.tile m).temp.own = .value v

/-- The source selected at an arrival (R69): the primary if it is available, else the fallback if that is. -/
def Selected (s : State) (i : Slot) (own : Option Int) (x : Source) (role : Role) (v : Int) (n : Option Slot) : Prop :=
  (x = (s.tile i).held.groups.tempSource.primary ∧ role = .primary ∧ Available s i own x v n)
    ∨ ((∀ u m, ¬Available s i own (s.tile i).held.groups.tempSource.primary u m)
        ∧ x = (s.tile i).held.groups.tempSource.fallback ∧ role = .fallback ∧ Available s i own x v n)

/-- What an arrival with valid reading `own` makes of OVERHEAT (R66, R126): `r` before, `q` after. -/
def OverheatJudged (x : TempSettings) (own : Option Int) (r q : ProtRec) : Prop :=
  (own = none → q.overheat = r.overheat ∧ q.overheatBlank = r.overheatBlank)
    ∧ ∀ v, own = some v →
      (x.tripLimit ≤ v → q.overheat = ⟨true, true, true⟩ ∧ q.overheatBlank = true)
      ∧ (v < x.tripLimit → v ≤ x.tripLimit - x.hysteresis →
          q.overheat = { r.overheat with cond := false, active := false } ∧ q.overheatBlank = false)
      ∧ (v < x.tripLimit → x.tripLimit - x.hysteresis < v →
          q.overheat.cond = r.overheat.cond ∧ q.overheat.active = r.overheat.cond ∧ q.overheatBlank = r.overheat.cond)

/-- A new Teff of `e` has HOT evaluated (R74, R125): ACTIVE at or above the HOT limit, INACTIVE at or below it less the hysteresis, as it
was between the two; `r` before, `q` after. -/
def HotJudged (c : ClassSettings) (x : TempSettings) (e : Int) (r q : ProtRec) : Prop :=
  evalClass c (decide (x.hotLimit ≤ e) || (r.hot.cond && decide (x.hotLimit - x.hysteresis < e))) r.hot r.hotAct
    = (q.hot, q.hotAct)

/-! ## Binding -/

/-- Record `r` at index `b` is the only TILE record of the store with serial `n`. -/
def OnlyRecord (st : Store) (n : Serial) (b : Nat) (r : Profile) : Prop :=
  st.profile b = some r ∧ r.kind = .tile ∧ r.serial = some n
    ∧ ∀ j q, st.profile j = some q → q.kind = .tile → q.serial = some n → j = b

/-- A tile whose slot has lost its profile, or failed to get one, for reason `why` with partial profile `w` (R13, R43, R45, R116). -/
def leftUnprofiled (why : UnprofReason) (w : Working) (x : Tile) : Tile :=
  { x with
    chain := { x.chain with
      state := if x.chain.state = .lost then .lost else .unprofiled
      former := if x.chain.state = .lost then some .unprofiled else x.chain.former
      bound := 0, reason := some why }
    held := .part w
    slew := { x.slew with ga := some ⟨4096, 4096, 4096⟩ } }

/-- A tile whose waiting slot has bound to index `b` with working profile `w` (R17, R46, R115). -/
def leftBound (b : Nat) (w : Working) (x : Tile) : Tile :=
  { x with
    chain := { x.chain with
      state := if x.chain.state = .lost then .lost else if x.chain.polled = true then .active else .joining
      former := if x.chain.state = .lost then some (if x.chain.polled = true then .active else .joining) else x.chain.former
      bound := b, reason := none }
    held := .full w
    slew := { x.slew with firstSet := x.slew.firstSet || x.chain.polled || x.chain.state == .lost } }

/-- At a store completion from `s` to `t` no slot but `i` is bound to index `b`. -/
def FreeFor (i : Slot) (b : Nat) (s t : State) : Prop :=
  ∀ j, j ≠ i → (s.tile j).chain.bound ≠ b ∧ (t.tile j).chain.bound ≠ b

/-- The slots that wait to bind have been tried against the store as the completion has left it (R46): one whose serial no record
carries stays with reason NOPROFILE, and one whose record is free binds, or stays with the reason its resolution fails for. PROBE may
move by the report of a sense write. -/
def WaitingSlotsAreTried (s t : State) : Prop :=
  ∀ i, (s.tile i).chain.waits = true → (s.tile i).chain.bound = 0 →
    ((∀ j q, t.store.profile j = some q → q.kind = .tile → q.serial ≠ (s.tile i).chain.serial) →
        t.tile i = { leftUnprofiled .noProfile {} (s.tile i) with prot := (t.tile i).prot })
    ∧ ∀ n b r, (s.tile i).chain.serial = some n → OnlyRecord t.store n b r → FreeFor i b s t →
        (∀ w, resolve t.store.profile b r = .ok w → t.tile i = { leftBound b w (s.tile i) with prot := (t.tile i).prot })
        ∧ ∀ why w, resolve t.store.profile b r = .fail why w →
            t.tile i = { leftUnprofiled why w (s.tile i) with prot := (t.tile i).prot }

/-- The bound slots that depend on index `k` have been re-resolved (R45, R47): one whose serial has left the store loses its profile
with reason NOPROFILE, one whose record still carries its serial takes the new working profile, or loses it for the reason its
resolution fails for; ACTIVE and JOINING slots become UNPROFILED, LOST slots take UNPROFILED as their former state. A slot that
neither depends on the index nor waits is untouched. PROBE may move by the report of a sense write. -/
def BoundSlotsAreResolvedAgain (k : Nat) (s t : State) : Prop :=
  (∀ i, (s.tile i).chain.waits = false → (s.tile i).dependsOn k = false →
      t.tile i = { s.tile i with prot := (t.tile i).prot })
    ∧ ∀ i, (s.tile i).chain.waits = false → (s.tile i).chain.state ≠ .vacant → (s.tile i).dependsOn k = true →
      ((∀ j q, t.store.profile j = some q → q.kind = .tile → q.serial ≠ (s.tile i).chain.serial) →
          t.tile i = { leftUnprofiled .noProfile {} (s.tile i) with prot := (t.tile i).prot })
      ∧ (∀ r w, t.store.profile (s.tile i).chain.bound = some r → r.kind = .tile → r.serial = (s.tile i).chain.serial →
          resolve t.store.profile (s.tile i).chain.bound r = .ok w →
          t.tile i = { s.tile i with held := .full w, prot := (t.tile i).prot })
      ∧ ∀ n r why w, (s.tile i).chain.serial = some n → OnlyRecord t.store n (s.tile i).chain.bound r →
          FreeFor i (s.tile i).chain.bound s t → resolve t.store.profile (s.tile i).chain.bound r = .fail why w →
          t.tile i = { leftUnprofiled why w (s.tile i) with prot := (t.tile i).prot }

/-- The slot a sense write was handed for still holds the write's serial and is not VACANT, as state `t` has it (R170). -/
def StillThere (w : SenseWrite) (t : State) : Prop :=
  (t.tile w.slot).chain.state ≠ .vacant ∧ (t.tile w.slot).chain.serial = some w.serial

/-- The index that a PUT-PROFILE naming `index` targets (R35). -/
def PutTarget (st : Store) (index k : Nat) : Prop :=
  (index ≠ 0 ∧ k = index) ∨ (index = 0 ∧ 1 ≤ k ∧ k ≤ 96 ∧ st.profile k = none ∧ ∀ j, 1 ≤ j → j < k → st.profile j ≠ none)

/-- Some chain of links through index `k` breaks the conditions of R36: it follows a fourth link, as every chain that returns to a
record does, or one of its links names an index with no record, or a TILE record. -/
def BadChainThrough (look : Nat → Option Profile) (k : Nat) : Prop :=
  ∃ path : List Nat, k ∈ path ∧ 2 ≤ path.length
    ∧ (∀ n i j, path[n]? = some i → path[n + 1]? = some j → ∃ r, look i = some r ∧ r.link = some j)
    ∧ (path.length = 5 ∨ ∃ j, path.getLast? = some j ∧ (look j = none ∨ ∃ r, look j = some r ∧ r.kind = .tile))

/-! ## Sweeps -/

/-- An ACTIVE slot that a sweep over these channels measures and does not skip (R164). -/
def CanBeMeasured (chans : RGB Bool) (t : Tile) : Prop :=
  t.chain.state = .active ∧ t.prot.overheat.cond = false ∧ t.temp.teff ≠ none
    ∧ (chans = ⟨true, true, true⟩ ∨ t.held.groups.sense ≠ none)

/-- The first channel of a set in R, G, B order (R164). -/
def FirstChan (chans : RGB Bool) (c : Chan) : Prop :=
  (c = .r ∧ chans.r = true) ∨ (c = .g ∧ chans.r = false ∧ chans.g = true)
    ∨ (c = .b ∧ chans.r = false ∧ chans.g = false ∧ chans.b = true)

/-- The slots from number `n` up to, not including, number `m` that are ACTIVE, or are not. -/
def countActive (s : State) (active : Bool) (n m : Nat) : Nat :=
  (slots.filter fun i => decide (n ≤ i.val) && decide (i.val < m) && ((s.tile i).chain.state == .active) == active).length

/-! ## Reading -/

/-- The response of a READ that is OK (R202, R203): status 0, the record's length in two bytes, and the record. -/
def okResponse (record : List Byte) : List Byte :=
  0 :: BitVec.ofNat 8 (record.length / 256) :: BitVec.ofNat 8 record.length :: record

/-! ## Invariants -/

/-- Three values within a bound. -/
def RGB.within (n : Nat) (x : RGB Nat) : Prop := x.r ≤ n ∧ x.g ≤ n ∧ x.b ≤ n

/-- Where a triple is present, its values lie within a bound. -/
def optWithin (n : Nat) (x : Option (RGB Nat)) : Prop := ∀ v, x = some v → RGB.within n v

/-- Every coefficient the part holds for a tile, pending, pushed or confirmed, lies in 0..4095 (R96). -/
def CoefInv (s : State) : Prop :=
  (∀ i, optWithin 4095 (s.tile i).chain.pending ∧ optWithin 4095 (s.tile i).chain.confirmed)
    ∧ ∀ i c, s.chain.activity = .push i c → RGB.within 4095 c

/-- Every applied gain, target gain and manual gain lies in 0..4096 (R94, R107, R114). -/
def GainInv (s : State) : Prop :=
  ∀ i, optWithin 4096 (s.tile i).slew.ga ∧ RGB.within 4096 (s.tile i).slew.manual ∧ optWithin 4096 (s.tile i).eng.gt

/-- Wherever an active flag is set, its latched flag is set too (R124). -/
def FlagsInv (s : State) : Prop :=
  ∀ i, ∀ c ∈ (s.tile i).prot.conds, c.active = true → c.latched = true

/-- P of every slot is what the actions in force on it make it (R134). -/
def FactorInv (s : State) : Prop := ∀ i, (s.tile i).prot.p = protFactor (s.tile i).prot

/-- BUDGET's active flag is set exactly while the state is TRIPPED, its latched flag is set with it, Sb lies in 1024..4096, and
is 4096 while the state is not TRIPPED (R147, R152). -/
def BudgetInv (s : State) : Prop :=
  (s.budget.active = true ↔ s.budget.state = .tripped) ∧ (s.budget.active = true → s.budget.latched = true)
    ∧ 1024 ≤ s.budget.sb ∧ s.budget.sb ≤ 4096 ∧ (s.budget.state ≠ .tripped → s.budget.sb = 4096)
    ∧ (s.budget.state = .off ↔ s.budget.set.budget = 0)

/-- Every setting lies in the range its chapter gives (R6, R76, R120, R136, R148, R184). -/
def SettingsInv (s : State) : Prop :=
  (10 ≤ s.chain.roundInterval ∧ s.chain.roundInterval ≤ 1000 ∧ 1 ≤ s.chain.missLimit ∧ s.chain.missLimit ≤ 15)
    ∧ (s.tempSet.w ≤ 7 ∧ s.tempSet.hotLimit < s.tempSet.tripLimit ∧ 40 ≤ s.tempSet.hotLimit ∧ s.tempSet.hotLimit ≤ 105
        ∧ 50 ≤ s.tempSet.tripLimit ∧ s.tempSet.tripLimit ≤ 110 ∧ 1 ≤ s.tempSet.hysteresis ∧ s.tempSet.hysteresis ≤ 20)
    ∧ (1 ≤ s.slewSet.stepUp ∧ s.slewSet.stepUp ≤ 512 ∧ 1 ≤ s.slewSet.stepDown ∧ s.slewSet.stepDown ≤ 512
        ∧ s.slewSet.tolerance ≤ 256)
    ∧ (s.protSet.hot.dim ≤ 4096 ∧ 1 ≤ s.protSet.hot.retry ∧ s.protSet.hot.retry ≤ 255 ∧ s.protSet.sensor.dim ≤ 4096
        ∧ 1 ≤ s.protSet.sensor.retry ∧ s.protSet.sensor.retry ≤ 255)
    ∧ ((s.budget.set.budget = 0 ∨ 100 ≤ s.budget.set.budget) ∧ s.budget.set.budget ≤ 65535
        ∧ 1 ≤ s.budget.set.hysteresis ∧ s.budget.set.hysteresis ≤ 50 ∧ 1 ≤ s.budget.set.count ∧ s.budget.set.count ≤ 255)
    ∧ (s.showRec.m ≤ 4096 ∧ 1 ≤ s.showRec.want.r ∧ 1 ≤ s.showRec.want.g ∧ 1 ≤ s.showRec.want.b
        ∧ RGB.within 65535 s.showRec.want ∧ s.showRec.floorRatio ≤ 4096 ∧ 5 ≤ s.showRec.timeout ∧ s.showRec.timeout ≤ 100
        ∧ (s.showRec.ambient.all fun v => decide (-40 ≤ v) && decide (v ≤ 125)) = true)

/-- No slot number appears at more than one map position, and none can be put there by a write in flight (R54). -/
def MapInv (s : State) : Prop :=
  (∀ (x y : Pos) (n : Slot), s.store.entry x = some n → s.store.entry y = some n → x = y)
    ∧ ∀ w x n, s.store.write = some w → w.op = .putMap x (some n) → ∀ y, s.store.entry y = some n → y = x

/-- While RESETn is high, the inverse names exactly the position whose entry names the slot (R51). -/
def InverseInv (s : State) : Prop :=
  s.inReset = false → ∀ (i : Slot) (x : Pos), s.inverse.get i = some x ↔ s.store.entry x = some i

/-- Every request in progress is held by the block that runs it, and every job, write and standby of a port holds the port's
slot (R177, R193, R199). -/
def JobsInv (s : State) : Prop :=
  (∀ p, (s.port p).busy = some .sweep ↔ s.token = .sweep p)
    ∧ (∀ p, (s.port p).busy = some .relearn ↔ s.token = .relearn (some p))
    ∧ (∀ q, (s.port (.prog q)).busy = some .claim ↔ s.auth.standby = some q)
    ∧ (s.port .service).busy ≠ some .claim
    ∧ (∀ q, s.auth.standby = some q → s.auth.holder = some (otherProg q))
    ∧ (∀ w, s.store.write = some w → (w.op.request = none ↔ w.issuer = none))
    ∧ (∀ w p, s.store.write = some w → w.issuer = some p → (s.port p).busy = w.op.request)
    ∧ (∀ p n, (s.port p).busy = some n → n = .sweep ∨ n = .relearn ∨ n = .claim
        ∨ ∃ w, s.store.write = some w ∧ w.issuer = some p ∧ w.op.request = some n)
    ∧ (s.sweep.state ≠ .none → ∃ p, s.token = .sweep p)
    ∧ (∀ p, s.token = .sweep p → s.sweep.state ≠ .none ∧ s.sweep.issuer = some p)
    ∧ (s.chain.activity.enumerating = true → ∃ x, s.token = .relearn x)
    ∧ (∀ p, (s.port p).busy = none → (s.port p).abortRequested = false)
    ∧ (s.inReset = true → s.store.write = none ∧ s.auth.standby = none ∧ s.sweep.state = .none ∧ s.chain.activity = .idle)

end Sys2Proof.Machine
end

