-- ==== Sys2Proof/Certificates/Slice0/Obligations.lean ====
section
/-! DEFINITION. The statements for the provers. -/

open Sys2Proof Sys2Proof.Machine

/-! ## The machine and its reset -/

/-- A step takes the command at the front of the queue and runs it on the state with the queue's rest. The queue is the model's
own (log entry 2). -/
def Obligations.StepTakesTheFrontCommand : Prop :=
  ∀ (s : State) (c : Instr) (rest : List Instr), s.pending = c :: rest →
    step s = exec c { s with pending := rest }

/-- A hard reset, from any state and by either cause, puts every block into its hard-reset state: authority unit and show record
(R190), chain controller and slot records (R24), the tiles' temperature, engine, slew and protection records (R79, R104, R122, R146),
budget unit (R160), sweep record (R163), store (R49) and request unit (R192); the queue of commands, which is the model's own, stands.
At power-up the reset runs to its end in the same command (R31, R51): good records and entries are kept where no write was cut off,
the inverse is built, each port starts with START pending and STORE beside it where a loss was counted, and the startup RELEARN,
which belongs to no port, has its ENUM 0 in flight. While RESETn is low no job has begun; what the ports then hold is the model's
choice (log entry 7), as are the free token, the idle chain controller and the inverse with every slot UNMAPPED (log entry 35), and so are the count of sweeps and the place of the chain controller (log entries 21 and 29). Power-up of the
part in its reset state leaves it in its reset state; that the store of the reset state is erased is the model's choice (log entry
6). -/
def Obligations.HardResetRestoresEveryBlock : Prop :=
  (∀ (cause : ResetCause) (cut : List CutOutcome) (s : State), ∃ t, exec (.hardReset cause cut) s = .next t
    ∧ t.auth = ⟨none, none, .stopped, .stopped, none, .reset, 0⟩
    ∧ t.showRec = ⟨0, ⟨2126, 7152, 722⟩, 2048, none, 20⟩
    ∧ t.tempSet = ⟨3, 70, 85, 5⟩ ∧ t.slewSet = ⟨4, 4, 8⟩
    ∧ t.protSet = ⟨⟨.retry, .dim, 2048, 10⟩, ⟨.report, .hold, 2048, 10⟩, true, .auto⟩
    ∧ t.budget = ⟨⟨0, .next, 10, 25⟩, .off, 4096, 0, 4096, 0, false, false, 0⟩
    ∧ t.wall = ⟨0, ⟨2126, 7152, 722⟩, 2048, none, 0, 0, none, none, 4096, none, none, ⟨2126, 7152, 722⟩⟩
    ∧ t.chain = ⟨40, 3, none, false, 0, false, 0, t.chain.activity, false⟩
    ∧ t.sweep = ⟨.none, none, none, none, none, none, none, ⟨none, none, none⟩, 0, 0, 0, 0, 0, none, 0⟩
    ∧ t.store.write = none ∧ t.store.queue = [] ∧ t.pending = s.pending
    ∧ (s.store.write = none →
        (∀ k, t.store.profile k = s.store.profile k) ∧ ∀ x, t.store.entry x = s.store.entry x)
    ∧ (∀ i, (t.tile i).chain = ⟨.vacant, none, 0, 0, none, false, none, false, none, none⟩
        ∧ (t.tile i).held = .none ∧ (t.tile i).temp = ⟨.absent, none, false, .absent, none, none, none, 0, 0, none⟩
        ∧ (t.tile i).eng = ⟨none, none, none, none, none, none, none, false, none, none, none, none, none, none, none, none, none,
            none, none⟩
        ∧ (t.tile i).slew = ⟨none, none, ⟨4096, 4096, 4096⟩, false, none⟩
        ∧ (∀ c ∈ (t.tile i).prot.conds, c = ⟨false, false, false⟩) ∧ (t.tile i).prot.hotAct = ⟨.none, none, none⟩
        ∧ (t.tile i).prot.sensorAct = ⟨.none, none, none⟩ ∧ (t.tile i).prot.overheatBlank = false
        ∧ (t.tile i).prot.probeReason = none ∧ (t.tile i).prot.probeChan = none ∧ (t.tile i).prot.p = 4096)
    ∧ (cause = .powerUp → t.inReset = false ∧ t.token = .relearn none ∧ t.chain.activity = .enum 0
        ∧ (∀ i x, t.inverse.get i = some x → t.store.entry x = some i)
        ∧ (∀ i, t.inverse.get i = none → ∀ x, t.store.entry x ≠ some i)
        ∧ ∀ p, t.port p = ⟨none, false, none, false,
            ⟨true, false, false, false, false, t.store.profileLosses != 0 || t.store.mapLosses != 0⟩,
            ⟨true, true, true, true, true, true⟩, []⟩)
    ∧ (cause = .resetnLow → t.inReset = true ∧ t.token = .free ∧ t.chain.activity = .idle ∧ (∀ i, t.inverse.get i = none)
        ∧ ∀ p, t.port p = ⟨none, false, none, false, ⟨true, false, false, false, false, false⟩,
            ⟨true, true, true, true, true, true⟩, []⟩))
    ∧ ∀ cut : List CutOutcome, exec (.hardReset .powerUp cut) State.reset = .next State.reset

/-- The release of RESETn ends a hard reset (R31, R51, R191, R192): records and entries that fail their check are discarded and
counted, good ones are kept, the inverse is built, each port starts IDLE with START pending and STORE beside it where a loss was
counted, and the startup RELEARN, which belongs to no port, has its ENUM 0 in flight. -/
def Obligations.ResetnReleaseVerifiesAndBegins : Prop :=
  ∀ s : State, s.inReset = true → ∃ t, exec .resetnRelease s = .next t
    ∧ t.inReset = false ∧ t.token = .relearn none ∧ t.chain.activity = .enum 0
    ∧ (∀ k, t.store.profile k = s.store.profile k) ∧ (∀ x, t.store.entry x = s.store.entry x)
    ∧ t.store.profiles.count (· == .failing) = 0 ∧ t.store.map.count (· == .failing) = 0
    ∧ t.store.profileLosses = s.store.profiles.count (· == .failing)
    ∧ t.store.mapLosses = s.store.map.count (· == .failing)
    ∧ (∀ k : Fin 96, s.store.profiles.get k = .failing ↔ k.val + 1 ∈ t.store.lost)
    ∧ (∀ i x, t.inverse.get i = some x → t.store.entry x = some i)
    ∧ (∀ i, t.inverse.get i = none → ∀ x, t.store.entry x ≠ some i)
    ∧ (∀ p, t.port p = { pending := { start := true, store := t.store.profileLosses != 0 || t.store.mapLosses != 0 } })
    ∧ t = { s with inReset := false, store := t.store, inverse := t.inverse, ports := t.ports, token := t.token
                   chain := { s.chain with activity := .enum 0 } }

/-! ## Transactions -/

/-- While RESETn is low, chip-select activity is no transaction: nothing changes (R191). -/
def Obligations.ChipSelectIsIgnoredInReset : Prop :=
  ∀ (c : Instr) (p : Port) (s : State), transactionOn c = some p → s.inReset = true → exec c s = .next s

/-- Every transaction on a programme port, whatever becomes of it, leaves that port's liveness timer RUNNING with the full timeout
held (R178); a SET-SHOW that changes the timeout leaves it with the new one. -/
def Obligations.TrafficRestartsTheLivenessTimer : Prop :=
  ∀ (c : Instr) (q : Prog) (s : State), c.wf = true → transactionOn c = some (.prog q) → s.inReset = false →
    ∃ t, exec c s = .next t ∧ t.auth.timer q = .running (t.showRec.timeout * 50)

/-- STATUS returns the port record as it stands, and then empties the pending set and clears overrun (R197); nothing else changes
but the liveness timer of a programme port. -/
def Obligations.StatusDrawsThenClears : Prop :=
  ∀ (p : Port) (s : State), s.inReset = false → ∃ t, exec (.status p) s = .next t
    ∧ t.port p = { s.port p with response := statusBytes (s.port p), pending := {}, overrun := false }
    ∧ (∀ q, q ≠ p → t.port q = s.port q)
    ∧ t = { s with ports := t.ports, auth := trafficAuth p s }

/-- READ returns a read status, a length and the record, and changes nothing but a programme port's liveness timer (R202, R203): the
tile record of a slot 0..63, the wall record, the show record, the authority record, a profile with its index, a map entry with the
state of the slot it names, the store status record and the settings record, each in its layout (R205). RANGE and EMPTY carry no
record bytes: a slot above 63, a profile index of 0 or above 96, a position outside the grid and a kind code that names no record are
RANGE, an empty profile index is EMPTY. The order of the two index bytes of a slot and of a profile is log entry 24, what the layouts
leave open is log entries 4 and 18, and that the liveness timer is restarted before the authority record is drawn is log entry 13: the
model's choices. -/
def Obligations.ReadAnswersAndChangesNothing : Prop :=
  ∀ (p : Port) (kind i0 i1 : Byte) (s : State), s.inReset = false → ∃ t, exec (.read p kind i0 i1) s = .next t
    ∧ (∀ q, q ≠ p → t.port q = s.port q) ∧ t = { s with ports := t.ports, auth := trafficAuth p s }
    ∧ t.port p = { s.port p with response := (t.port p).response }
    ∧ (kind = 1 → 64 ≤ i0.toNat * 256 + i1.toNat → (t.port p).response = [1, 0, 0])
    ∧ (∀ i : Slot, kind = 1 → i0.toNat * 256 + i1.toNat = i.val →
        (t.port p).response = okResponse (encode (tileItems s i)))
    ∧ (kind = 2 → (t.port p).response = okResponse (encode (wallRecordItems s)))
    ∧ (kind = 3 → (t.port p).response = okResponse (encode (showItems s.showRec)))
    ∧ (kind = 4 → (t.port p).response = okResponse (encode (authorityItems (trafficAuth p s) s.showRec)))
    ∧ (kind = 5 → (i0.toNat * 256 + i1.toNat = 0 ∨ 96 < i0.toNat * 256 + i1.toNat) → (t.port p).response = [1, 0, 0])
    ∧ (kind = 5 → 1 ≤ i0.toNat * 256 + i1.toNat → i0.toNat * 256 + i1.toNat ≤ 96 →
        s.store.profile (i0.toNat * 256 + i1.toNat) = none → (t.port p).response = [2, 0, 0])
    ∧ (∀ r, kind = 5 → 1 ≤ i0.toNat * 256 + i1.toNat → i0.toNat * 256 + i1.toNat ≤ 96 →
        s.store.profile (i0.toNat * 256 + i1.toNat) = some r → (t.port p).response = [0, 0, 49, i1] ++ profileImage r)
    ∧ (kind = 6 → (16 ≤ i0.toNat ∨ 16 ≤ i1.toNat) → (t.port p).response = [1, 0, 0])
    ∧ (∀ x : Pos, kind = 6 → i0.toNat = x.col.val → i1.toNat = x.row.val →
        (s.store.entry x = none → (t.port p).response = okResponse [0, i0, i1, 255, 0])
        ∧ ∀ i, s.store.entry x = some i → (t.port p).response
            = okResponse [1, i0, i1, BitVec.ofNat 8 i.val, BitVec.ofNat 8 (s.tile i).chain.state.code])
    ∧ (kind = 7 → (t.port p).response = okResponse (encode (storeItems s.store)))
    ∧ (kind = 8 → (t.port p).response = okResponse (encode (settingsItems s)))
    ∧ ((kind = 0 ∨ 8 < kind.toNat) → (t.port p).response = [1, 0, 0])

/-- RESULT returns the port's result block as it stands: request, outcome, reason, and the result data of the block with their length;
all bytes are 0 where it is NONE. A discarded transaction returns nothing. Neither changes anything else but a programme port's
liveness timer (R191, R196, R203). How result data are laid out as bytes is log entry 18, and the byte of a request that no code names
is log entry 3: the model's choices. -/
def Obligations.ResultAndDiscardedChangeNothing : Prop :=
  ∀ (p : Port) (s : State), s.inReset = false →
    (∃ t, exec (.result p) s = .next t
      ∧ t.port p = { s.port p with response := (t.port p).response } ∧ (∀ q, q ≠ p → t.port q = s.port q)
      ∧ t = { s with ports := t.ports, auth := trafficAuth p s }
      ∧ ((s.port p).result = none → (t.port p).response = [0, 0, 0, 0, 0])
      ∧ (∀ n v why d, (s.port p).result = some ⟨n, v, why, d⟩ →
          (t.port p).response = n.code :: BitVec.ofNat 8 v.code
            :: BitVec.ofNat 8 (match why with | some w => w.code | none => 0)
            :: BitVec.ofNat 8 ((encode d.items).length / 256) :: BitVec.ofNat 8 (encode d.items).length :: encode d.items))
    ∧ exec (.discardedTransaction p) s = .next { s with auth := trafficAuth p s }

/-- ABORT (R181, R198): on an IDLE slot it is discarded; a store request goes on with abort requested set; a waiting CLAIM ends at
once and the standby is removed, with AUTH at every port; a RELEARN with an ENUM in flight goes on with abort requested set, and
one that waits ends at once with no slot changed. A second ABORT changes nothing. That an aborted CLAIM or RELEARN carries no result
data is the model's choice (log entry 12). -/
def Obligations.AbortFollowsTheRequestInProgress : Prop :=
  ∀ (p : Port) (s : State), s.inReset = false →
    ((s.port p).busy = none → exec (.abort p) s = .next { s with auth := trafficAuth p s })
    ∧ ((s.port p).abortRequested = true → exec (.abort p) s = .next { s with auth := trafficAuth p s })
    ∧ (∀ n, n = .putProfile ∨ n = .dropProfile ∨ n = .putMap ∨ n = .clearMap → (s.port p).busy = some n →
        ∃ t, exec (.abort p) s = .next t ∧ t.port p = { s.port p with abortRequested := true }
          ∧ (∀ q, q ≠ p → t.port q = s.port q) ∧ t = { s with ports := t.ports, auth := trafficAuth p s })
    ∧ ((s.port p).busy = some .claim → (s.port p).abortRequested = false →
        ∃ t, exec (.abort p) s = .next t ∧ PortsAfter p ⟨.claim, .aborted, some .byPort, .nothing⟩ { auth := true } s t
          ∧ t = { s with ports := t.ports, auth := { trafficAuth p s with standby := none } })
    ∧ ((s.port p).busy = some .relearn → (s.port p).abortRequested = false → s.token = .relearn (some p) →
        (∀ n, s.chain.activity ≠ .enum n) →
        ∃ t, exec (.abort p) s = .next t ∧ PortsAfter p ⟨.relearn, .aborted, some .byPort, .nothing⟩ {} s t
          ∧ t = { s with ports := t.ports, auth := trafficAuth p s, token := .free })
    ∧ (∀ n, (s.port p).busy = some .relearn → s.chain.activity = .enum n →
        ∃ t, exec (.abort p) s = .next t ∧ t.port p = { s.port p with abortRequested := true }
          ∧ (∀ q, q ≠ p → t.port q = s.port q) ∧ t = { s with ports := t.ports, auth := trafficAuth p s })

/-- ABORT of a sweep (R172): between probe steps and in WAITING it ends at once with its tallies as they stand, and during a probe
step of its own it goes on with abort requested set. That the cursor slot and the last slot reached stay in the record of the ended
sweep is the model's choice (log entry 32). -/
def Obligations.AbortOfASweep : Prop :=
  ∀ (p : Port) (s : State), s.inReset = false → (s.port p).busy = some .sweep → (s.port p).abortRequested = false →
    s.sweep.issuer = some p → s.sweep.state ≠ .none →
    ((s.chain.activity.probing = false ∨ s.chain.windDown = true) →
      ∃ t, exec (.abort p) s = .next t
        ∧ PortsAfter p ⟨.sweep, .aborted, some .byPort,
            .sweep s.sweep.measured s.sweep.failed s.sweep.skipped s.sweep.passed s.sweep.lastReached s.sweep.outstanding⟩ {} s t
        ∧ t = { s with ports := t.ports, auth := trafficAuth p s, token := .free
                       sweep := { s.sweep with state := .none, tile := none, tsense := none, hsense := none
                                               readings := ⟨none, none, none⟩ } })
    ∧ (s.chain.activity.probing = true → s.chain.windDown = false →
      ∃ t, exec (.abort p) s = .next t ∧ t.port p = { s.port p with abortRequested := true }
        ∧ (∀ q, q ≠ p → t.port q = s.port q) ∧ t = { s with ports := t.ports, auth := trafficAuth p s })

/-- A POST on a BUSY slot is discarded: overrun is set, and the request is never checked or run (R193). -/
def Obligations.BusySlotDiscardsThePost : Prop :=
  ∀ (n : ReqName) (p : Port) (block : List Byte) (s : State), (postOfName n p block).wf = true → s.inReset = false →
    (s.port p).busy ≠ none →
    ∃ t, exec (postOfName n p block) s = .next t ∧ t.port p = { s.port p with overrun := true }
      ∧ (∀ q, q ≠ p → t.port q = s.port q) ∧ t = { s with ports := t.ports, auth := trafficAuth p s }

/-- The ports' rights (R195) in the order of the checks (R194): each cell of the table, with freeze (R188) after the issuer's
right. A port is the holder while it holds authority, and while authority is VACANT both programme ports are non-holders. -/
def Obligations.RightsOfThePorts : Prop :=
  ∀ (n : ReqName) (s : State),
    (∀ q, s.auth.holder ≠ some q → n ≠ .claim → n ≠ .setNotice → n.isNamed = true →
      admission n (.prog q) s = some .noAuth)
    ∧ (∀ p, n = .setNotice → admission n p s = none)
    ∧ (∀ q, n = .claim → admission n (.prog q) s = none) ∧ (n = .claim → admission n .service s = some .noAuth)
    ∧ (n = .release ∨ n = .setShow ∨ n = .freeze ∨ n = .thaw ∨ n = .setBudget →
        admission n .service s = some .noAuth ∧ ∀ q, s.auth.holder = some q → admission n (.prog q) s = none)
    ∧ (n = .putProfile ∨ n = .dropProfile ∨ n = .putMap ∨ n = .clearMap ∨ n = .setTrack ∨ n = .setSlew ∨ n = .setTemp
          ∨ n = .setProtect →
        ∀ p, p = .service ∨ (∃ q, p = .prog q ∧ s.auth.holder = some q) →
          admission n p s = if s.auth.key = none then none else some .frozen)
    ∧ (n = .sweep ∨ n = .relearn → ∀ p, p = .service ∨ (∃ q, p = .prog q ∧ s.auth.holder = some q) →
        (s.auth.key ≠ none → admission n p s = some .frozen) ∧ (s.auth.key = none → s.token = .free → admission n p s = none))
    ∧ (n = .clearFaults → ∀ p, p = .service ∨ (∃ q, p = .prog q ∧ s.auth.holder = some q) → admission n p s = none)
    ∧ (n = .restartChain → admission n .service s = (if s.auth.key = none then none else some .frozen)
        ∧ ∀ q, s.auth.holder = some q → admission n (.prog q) s = none)

/-- The modal check (R173, R199): while the token is held a SWEEP or RELEARN is refused MODAL, save that the holder's pre-empts a
sweep whose issuer does not hold authority. -/
def Obligations.ModalCheckProtectsTheToken : Prop :=
  ∀ (n : ReqName) (p : Port) (s : State), n = .sweep ∨ n = .relearn → s.auth.key = none →
    (p = .service ∨ ∃ q, p = .prog q ∧ s.auth.holder = some q) →
    (∀ x, s.token = .relearn x → admission n p s = some .modal)
    ∧ (∀ x, s.token = .sweep x → p = .service → admission n p s = some .modal)
    ∧ (∀ q, s.token = .sweep (.prog q) → s.auth.holder = some q → admission n p s = some .modal)
    ∧ (∀ q x, s.token = .sweep x → p = .prog q → x ≠ .prog q → admission n p s = none)

/-- A request that fails one of the first three checks completes REFUSED with that reason and changes nothing but its own port
record and, on a programme port, the liveness timer (R194). That a refused request carries no result data is the model's choice (log
entry 12). -/
def Obligations.RefusedRequestTouchesOnlyItsPort : Prop :=
  ∀ (n : ReqName) (p : Port) (block : List Byte) (why : Reason) (s : State), n.isNamed = true → SlotFree p s →
    admission n p s = some why →
    ∃ t, exec (postOfName n p block) s = .next t ∧ PortsAfter p ⟨n, .refused, some why, .nothing⟩ {} s t
      ∧ t = { s with ports := t.ports, auth := trafficAuth p s }

/-- A parameter block whose length differs from its request's layout is REFUSED RANGE once the first three checks are past (R194,
R204); a POST whose code names no request is REFUSED RANGE from every port, whoever holds authority and whether or not the show is
frozen (R194). Neither changes anything but its own port record and a programme port's liveness timer. The request that the
result block names for such a code is the model's choice (log entry 3), and so is that a refused request carries no result data (log
entry 12). -/
def Obligations.UnreadablePostsAreRefusedRange : Prop :=
  (∀ (n : ReqName) (p : Port) (block : List Byte) (s : State), n.isNamed = true → Accepts n p s →
    block.length ≠ n.blockLength →
    ∃ t, exec (postOfName n p block) s = .next t ∧ PortsAfter p ⟨n, .refused, some .range, .nothing⟩ {} s t
      ∧ t = { s with ports := t.ports, auth := trafficAuth p s })
    ∧ ∀ (p : Port) (code : Byte) (block : List Byte) (s : State), (code.toNat = 0 ∨ 19 < code.toNat) → SlotFree p s →
      ∃ t, exec (.unknownRequestPost p code block) s = .next t
        ∧ PortsAfter p ⟨.unnamed code, .refused, some .range, .nothing⟩ {} s t
        ∧ t = { s with ports := t.ports, auth := trafficAuth p s }

/-- SET-NOTICE sets the issuing port's mask alone, from every port and while frozen, and its completion adds JOB (R201): the
attention line of the port is then low exactly where a pending class lies in the new mask. -/
def Obligations.SetNoticeSetsItsOwnMask : Prop :=
  ∀ (p : Port) (b : Byte) (s : State), SlotFree p s → b.toNat < 64 →
    ∃ t m, exec (.setNotice p [b]) s = .next t
      ∧ m = ⟨b.getLsbD 0, b.getLsbD 1, b.getLsbD 2, b.getLsbD 3, b.getLsbD 4, b.getLsbD 5⟩
      ∧ t.port p = { s.port p with abortRequested := false, result := some ⟨.setNotice, .done, none, .notice m⟩
                                   pending := { (s.port p).pending with job := true }, mask := m }
      ∧ (∀ q, q ≠ p → t.port q = s.port q) ∧ t = { s with ports := t.ports, auth := trafficAuth p s }
      ∧ (t.attentionLow p = true ↔ ({ (s.port p).pending with job := true } : Notices).meets m = true)

/-! ## Show authority -/

/-- CLAIM from a programme port (R180): it takes vacant authority, is answered DONE with nothing changed where the port already
holds it, is refused HELD with wait 0 while the other port holds it, and with wait 1 becomes the standby and holds its slot
BUSY. That the refusal carries no result data is the model's choice (log entry 12). -/
def Obligations.ClaimIsAnsweredFromTheAuthorityState : Prop :=
  ∀ (q : Prog) (b : Byte) (s : State), SlotFree (.prog q) s → b.toNat ≤ 1 →
    (s.auth.holder = none → ∃ t, exec (.claim (.prog q) [b]) s = .next t
      ∧ PortsAfter (.prog q) ⟨.claim, .done, none, .claim (some q) s.auth.key.isSome⟩ { auth := true } s t
      ∧ t = { s with ports := t.ports, auth := { trafficAuth (.prog q) s with
          holder := some q, lastChange := .claim, changes := (s.auth.changes + 1) % 65536 } })
    ∧ (s.auth.holder = some q → ∃ t, exec (.claim (.prog q) [b]) s = .next t
      ∧ PortsAfter (.prog q) ⟨.claim, .done, none, .claim (some q) s.auth.key.isSome⟩ {} s t
      ∧ t = { s with ports := t.ports, auth := trafficAuth (.prog q) s })
    ∧ (s.auth.holder = some (otherProg q) → b.toNat = 0 → ∃ t, exec (.claim (.prog q) [b]) s = .next t
      ∧ PortsAfter (.prog q) ⟨.claim, .refused, some .held, .nothing⟩ {} s t
      ∧ t = { s with ports := t.ports, auth := trafficAuth (.prog q) s })
    ∧ (s.auth.holder = some (otherProg q) → b.toNat = 1 → ∃ t, exec (.claim (.prog q) [b]) s = .next t
      ∧ t.port (.prog q) = { (s.port (.prog q)).notice { auth := true } with busy := some .claim }
      ∧ (∀ p, p ≠ .prog q → t.port p = (s.port p).notice { auth := true })
      ∧ t = { s with ports := t.ports, auth := { trafficAuth (.prog q) s with standby := some q } })

/-- RELEASE from the holder (R182): with a standby, authority passes to it, its timer is restarted and its CLAIM completes DONE;
without one authority becomes VACANT. Show record, freeze and key stand (R183). -/
def Obligations.ReleasePassesOrVacatesAuthority : Prop :=
  ∀ (q : Prog) (s : State), SlotFree (.prog q) s → s.auth.holder = some q →
    (s.auth.standby = none → ∃ t, exec (.release (.prog q) []) s = .next t
      ∧ PortsAfter (.prog q) ⟨.release, .done, none, .release none⟩ { auth := true } s t
      ∧ t = { s with ports := t.ports, auth := { trafficAuth (.prog q) s with
          holder := none, lastChange := .release, changes := (s.auth.changes + 1) % 65536 } })
    ∧ (s.auth.standby = some (otherProg q) → ∃ t, exec (.release (.prog q) []) s = .next t
      ∧ (t.port (.prog q)).result = some ⟨.release, .done, none, .release (some (otherProg q))⟩
      ∧ (t.port (.prog (otherProg q))).result = some ⟨.claim, .done, none, .claim (some (otherProg q)) s.auth.key.isSome⟩
      ∧ (t.port (.prog (otherProg q))).busy = none ∧ (t.port (.prog q)).busy = none
      ∧ (t.port .service) = (s.port .service).notice { auth := true } ∧ (∀ p, (t.port p).pending.auth = true)
      ∧ t.auth.timer (otherProg q) = .running (s.showRec.timeout * 50)
      ∧ t.auth.timer q = .running (s.showRec.timeout * 50)
      ∧ t.auth = { s.auth with
          holder := some (otherProg q), standby := none, lastChange := .handover, changes := (s.auth.changes + 1) % 65536
          timerA := t.auth.timerA, timerB := t.auth.timerB }
      ∧ t = { s with ports := t.ports, auth := t.auth })

/-- The expiry of a programme port's liveness timer (R178, R179, R183): a lapse where the port holds authority, which passes to
the standby or becomes VACANT, and no other effect than EXPIRED where it does not. -/
def Obligations.LivenessExpiryIsALapseOfTheHolder : Prop :=
  ∀ (q : Prog) (n : Nat) (s : State), s.auth.timer q = .running n →
    (s.auth.holder ≠ some q →
      exec (.livenessTimerExpiry q) s = .next { s with auth := s.auth.setTimer q .expired })
    ∧ (s.auth.holder = some q → s.auth.standby = none → ∃ t, exec (.livenessTimerExpiry q) s = .next t
      ∧ (∀ p, t.port p = (s.port p).notice { auth := true })
      ∧ t = { s with ports := t.ports, auth := { s.auth.setTimer q .expired with
          holder := none, lastChange := .lapse, changes := (s.auth.changes + 1) % 65536 } })
    ∧ (s.auth.holder = some q → s.auth.standby = some (otherProg q) → ∃ t, exec (.livenessTimerExpiry q) s = .next t
      ∧ PortsAfter (.prog (otherProg q)) ⟨.claim, .done, none, .claim (some (otherProg q)) s.auth.key.isSome⟩
          { auth := true } s t
      ∧ t = { s with ports := t.ports
                     auth := { (s.auth.setTimer q .expired).setTimer (otherProg q) (.running (s.showRec.timeout * 50)) with
          holder := some (otherProg q), standby := none, lastChange := .handover
          changes := (s.auth.changes + 1) % 65536 } })

/-- SET-SHOW holds each setting it gives, clamped, and keeps the others (R184); a change of Want re-derives Target from the held s
(R93), and a change of the timeout restarts every RUNNING timer (R178). This is the SET-SHOW that leaves M as it is. -/
def Obligations.SetShowHoldsItsSettings : Prop :=
  ∀ (p : Port) (block : List Byte) (x : ShowBlock) (s : State), Accepts .setShow p s → readShow block = some x →
    (x.m.map (min 4096)).getD s.showRec.m = s.showRec.m →
    ∃ t, exec (.setShow p block) s = .next t
      ∧ t.showRec.m = s.showRec.m
      ∧ t.showRec.want = (x.want.map fun w => ⟨max 1 w.r, max 1 w.g, max 1 w.b⟩).getD s.showRec.want
      ∧ t.showRec.floorRatio = (x.floorRatio.map (min 4096)).getD s.showRec.floorRatio
      ∧ (x.ambient = .keep → t.showRec.ambient = s.showRec.ambient) ∧ (x.ambient = .clear → t.showRec.ambient = none)
      ∧ (∀ v, x.ambient = .set v → t.showRec.ambient = some (max (-40) (min 125 v)))
      ∧ t.showRec.timeout = (x.timeout.map fun v => max 5 (min 100 v)).getD s.showRec.timeout
      ∧ PortsAfter p ⟨.setShow, .done, none, .shown t.showRec⟩ {} s t
      ∧ (t.showRec.want ≠ s.showRec.want → t.wall = { s.wall with
          target := ⟨t.showRec.want.r * s.wall.s / 4096, t.showRec.want.g * s.wall.s / 4096, t.showRec.want.b * s.wall.s / 4096⟩ })
      ∧ (t.showRec.want = s.showRec.want → t.wall = s.wall)
      ∧ (t.showRec.timeout = s.showRec.timeout → t.auth = trafficAuth p s)
      ∧ (t.showRec.timeout ≠ s.showRec.timeout → ∀ q, t.auth.timer q =
          match (trafficAuth p s).timer q with
          | .running _ => .running (t.showRec.timeout * 50)
          | .stopped => .stopped
          | .expired => .expired)
      ∧ t = { s with ports := t.ports, auth := { s.auth with timerA := t.auth.timerA, timerB := t.auth.timerB }
                     showRec := t.showRec, wall := t.wall }

/-- SET-SHOW that changes M re-forms every ACTIVE slot that has applied gains and every UNPROFILED slot at once, with the new M and
the held P and Sb, leaves their applied gains, and re-forms no other slot (R99, R100, R119, R185); a sweep in progress ends
ABORTED LIVE where M is now above 0 (R174). -/
def Obligations.SetShowOfMReformsTheWall : Prop :=
  ∀ (p : Port) (block : List Byte) (x : ShowBlock) (m : Nat) (s : State), Accepts .setShow p s → readShow block = some x →
    x.m = some m → min 4096 m ≠ s.showRec.m →
    ∃ t, exec (.setShow p block) s = .next t ∧ t.showRec.m = min 4096 m
      ∧ (∀ i g, ((s.tile i).chain.state = .active ∧ (s.tile i).slew.ga = some g)
            ∨ ((s.tile i).chain.state = .unprofiled ∧ g = ⟨4096, 4096, 4096⟩) →
          (t.tile i).chain = { (s.tile i).chain with
            pending := some (formed (min 4096 m) (usedFactor (s.tile i)) s.budget.sb g) }
          ∧ (t.tile i).eng.formedBy = some .reform ∧ (t.tile i).eng.mUsed = some (min 4096 m))
      ∧ (∀ i, (s.tile i).chain.state ≠ .active → (s.tile i).chain.state ≠ .unprofiled → t.tile i = s.tile i)
      ∧ (∀ i, (s.tile i).chain.state = .active → (s.tile i).slew.ga = none → t.tile i = s.tile i)
      ∧ (∀ i, (t.tile i).slew = (s.tile i).slew ∧ (t.tile i).prot = (s.tile i).prot ∧ (t.tile i).temp = (s.tile i).temp
          ∧ (t.tile i).held = (s.tile i).held)
      ∧ (t.port p).result = some ⟨.setShow, .done, none, .shown t.showRec⟩ ∧ t.budget = s.budget ∧ t.store = s.store
      ∧ (∀ y, s.sweep.state ≠ .none → s.sweep.issuer = some y → y ≠ p → 0 < m →
          t.sweep.state = .none ∧ t.token = .free
            ∧ ∃ d, (t.port y).result = some ⟨.sweep, .aborted, some .live, d⟩ ∧ (t.port y).busy = none)
      ∧ (m = 0 → t.sweep = s.sweep ∧ t.token = s.token)

/-- FREEZE once the issuer's right is past (R186): a key of 0 is RANGE; another key freezes an unfrozen show and tells AUTH at every
port; while frozen the show key is DONE with nothing changed, and another is BADKEY. That a refusal carries no result data is the
model's choice (log entry 12). -/
def Obligations.FreezeTakesTheKey : Prop :=
  ∀ (p : Port) (block : List Byte) (k : Key) (s : State), Accepts .freeze p s → block.length = 4 →
    k.toNat = u32At block 0 →
    (k = 0 → ∃ t, exec (.freeze p block) s = .next t
      ∧ PortsAfter p ⟨.freeze, .refused, some .range, .nothing⟩ {} s t
      ∧ t = { s with ports := t.ports, auth := trafficAuth p s })
    ∧ (k ≠ 0 → s.auth.key = none → ∃ t, exec (.freeze p block) s = .next t
      ∧ PortsAfter p ⟨.freeze, .done, none, .frozen true⟩ { auth := true } s t
      ∧ t = { s with ports := t.ports, auth := { trafficAuth p s with key := some k } })
    ∧ (k ≠ 0 → s.auth.key = some k → ∃ t, exec (.freeze p block) s = .next t
      ∧ PortsAfter p ⟨.freeze, .done, none, .frozen true⟩ {} s t
      ∧ t = { s with ports := t.ports, auth := trafficAuth p s })
    ∧ (∀ h, k ≠ 0 → s.auth.key = some h → h ≠ k → ∃ t, exec (.freeze p block) s = .next t
      ∧ PortsAfter p ⟨.freeze, .refused, some .badKey, .nothing⟩ {} s t
      ∧ t = { s with ports := t.ports, auth := trafficAuth p s })

/-- THAW (R187): refused NOAUTH from the service port and from a non-holder; from the holder a key of 0 is RANGE, the show key lifts
the freeze and tells AUTH at every port, another key is BADKEY and changes nothing, and while not frozen it is DONE with nothing
changed. That a refusal carries no result data is the model's choice (log entry 12). -/
def Obligations.ThawLiftsTheFreezeWithItsKey : Prop :=
  ∀ (p : Port) (block : List Byte) (k : Key) (s : State), SlotFree p s → block.length = 4 → k.toNat = u32At block 0 →
    ((p = .service ∨ ∃ q, p = .prog q ∧ s.auth.holder ≠ some q) → ∃ t, exec (.thaw p block) s = .next t
      ∧ PortsAfter p ⟨.thaw, .refused, some .noAuth, .nothing⟩ {} s t
      ∧ t = { s with ports := t.ports, auth := trafficAuth p s })
    ∧ ∀ q, p = .prog q → s.auth.holder = some q →
      (k = 0 → ∃ t, exec (.thaw p block) s = .next t
        ∧ PortsAfter p ⟨.thaw, .refused, some .range, .nothing⟩ {} s t
        ∧ t = { s with ports := t.ports, auth := trafficAuth p s })
      ∧ (k ≠ 0 → s.auth.key = some k → ∃ t, exec (.thaw p block) s = .next t
        ∧ PortsAfter p ⟨.thaw, .done, none, .frozen false⟩ { auth := true } s t
        ∧ t = { s with ports := t.ports, auth := { trafficAuth p s with key := none } })
      ∧ (∀ h, k ≠ 0 → s.auth.key = some h → h ≠ k → ∃ t, exec (.thaw p block) s = .next t
        ∧ PortsAfter p ⟨.thaw, .refused, some .badKey, .nothing⟩ {} s t
        ∧ t = { s with ports := t.ports, auth := trafficAuth p s })
      ∧ (k ≠ 0 → s.auth.key = none → ∃ t, exec (.thaw p block) s = .next t
        ∧ PortsAfter p ⟨.thaw, .done, none, .frozen false⟩ {} s t
        ∧ t = { s with ports := t.ports, auth := trafficAuth p s })

/-! ## Settings -/

/-- SET-SLEW (R120): each setting given is held clamped, the others are kept, and nothing else moves: no slot is re-formed. Which bit of
the change map gives which setting, and that its unused bits are ignored, is the model's choice (log entry 16). -/
def Obligations.SetSlewHoldsItsSettings : Prop :=
  ∀ (p : Port) (block : List Byte) (s : State), Accepts .setSlew p s → block.length = 8 →
    ∃ t, exec (.setSlew p block) s = .next t
      ∧ t.slewSet.stepUp = (if bitAt block 0 0 = true then max 1 (min 512 (u16At block 2)) else s.slewSet.stepUp)
      ∧ t.slewSet.stepDown = (if bitAt block 0 1 = true then max 1 (min 512 (u16At block 4)) else s.slewSet.stepDown)
      ∧ t.slewSet.tolerance = (if bitAt block 0 2 = true then min 256 (u16At block 6) else s.slewSet.tolerance)
      ∧ PortsAfter p ⟨.setSlew, .done, none, .slew t.slewSet⟩ {} s t
      ∧ t = { s with ports := t.ports, auth := trafficAuth p s, slewSet := t.slewSet }

/-- SET-TEMP (R73, R76): each value given is clamped to its range, then a HOT limit at or above the trip limit is held as the trip
limit less 1; a change of w empties every accumulator and leaves every Teff. The bits of the change map (log entry 16) and the
hysteresis read as unsigned (log entry 17) are the model's choices. -/
def Obligations.SetTempHoldsItsSettings : Prop :=
  ∀ (p : Port) (block : List Byte) (s : State), Accepts .setTemp p s → block.length = 10 →
    ∃ t hot, exec (.setTemp p block) s = .next t
      ∧ hot = (if bitAt block 0 1 = true then max 40 (min 105 (s16At block 4)) else s.tempSet.hotLimit)
      ∧ t.tempSet.w = (if bitAt block 0 0 = true then min 7 (u16At block 2) else s.tempSet.w)
      ∧ t.tempSet.tripLimit = (if bitAt block 0 2 = true then max 50 (min 110 (s16At block 6)) else s.tempSet.tripLimit)
      ∧ t.tempSet.hotLimit = (if t.tempSet.tripLimit ≤ hot then t.tempSet.tripLimit - 1 else hot)
      ∧ t.tempSet.hysteresis = (if bitAt block 0 3 = true then ((max 1 (min 20 (u16At block 8)) : Nat) : Int)
          else s.tempSet.hysteresis)
      ∧ (t.tempSet.w = s.tempSet.w → t.tiles = s.tiles)
      ∧ (t.tempSet.w ≠ s.tempSet.w →
          ∀ i, t.tile i = { s.tile i with temp := { (s.tile i).temp with sum := 0, count := 0 } })
      ∧ PortsAfter p ⟨.setTemp, .done, none, .temp t.tempSet⟩ {} s t
      ∧ t = { s with ports := t.ports, auth := trafficAuth p s, tempSet := t.tempSet, tiles := t.tiles }

/-- SET-PROTECT (R6, R136, R137, R138): the settings given are held clamped, and every slot's HOT and SENSOR flags, actions and
timers are brought into line with a changed mode; under an unchanged mode flags and timers stand and an action in force takes the
present kind and dim level. SHORT flags follow a changed SHORT mode, and P the actions then in force: a slot whose P has changed is
re-formed, another keeps its coefficients (R99, R134). No condition, no applied gain, no temperature and no slot state moves. -/
def Obligations.SetProtectBringsSlotsIntoLine : Prop :=
  ∀ (p : Port) (block : List Byte) (x : ProtBlock) (s : State), Accepts .setProtect p s → readProtect block = some x →
    ∃ t, exec (.setProtect p block) s = .next t
      ∧ t.protSet.hot = ⟨x.hot.mode.getD s.protSet.hot.mode, x.hot.action.getD s.protSet.hot.action,
          (x.hot.dim.map (min 4096)).getD s.protSet.hot.dim,
          (x.hot.retry.map fun v => max 1 (min 255 v)).getD s.protSet.hot.retry⟩
      ∧ t.protSet.sensor = ⟨x.sensor.mode.getD s.protSet.sensor.mode, x.sensor.action.getD s.protSet.sensor.action,
          (x.sensor.dim.map (min 4096)).getD s.protSet.sensor.dim,
          (x.sensor.retry.map fun v => max 1 (min 255 v)).getD s.protSet.sensor.retry⟩
      ∧ t.protSet.shortReport = x.shortReport.getD s.protSet.shortReport
      ∧ t.protSet.lostPolicy = x.lostPolicy.getD s.protSet.lostPolicy
      ∧ t.chain = { s.chain with
          missLimit := (x.missLimit.map fun v => max 1 (min 15 v)).getD s.chain.missLimit
          roundInterval := (x.roundInterval.map fun v => max 10 (min 1000 v)).getD s.chain.roundInterval }
      ∧ (∀ i,
          (s.protSet.hot.mode ≠ t.protSet.hot.mode →
            ClassInLine t.protSet.hot (s.tile i).prot.hot (s.tile i).prot.hotAct (t.tile i).prot.hot (t.tile i).prot.hotAct)
          ∧ (s.protSet.sensor.mode ≠ t.protSet.sensor.mode →
            ClassInLine t.protSet.sensor (s.tile i).prot.sensor (s.tile i).prot.sensorAct (t.tile i).prot.sensor
              (t.tile i).prot.sensorAct)
          ∧ (s.protSet.hot.mode = t.protSet.hot.mode →
            ClassKept t.protSet.hot (s.tile i).prot.hot (s.tile i).prot.hotAct (t.tile i).prot.hot (t.tile i).prot.hotAct)
          ∧ (s.protSet.sensor.mode = t.protSet.sensor.mode →
            ClassKept t.protSet.sensor (s.tile i).prot.sensor (s.tile i).prot.sensorAct (t.tile i).prot.sensor
              (t.tile i).prot.sensorAct)
          ∧ (s.protSet.shortReport = t.protSet.shortReport → (t.tile i).prot.short = (s.tile i).prot.short)
          ∧ (s.protSet.shortReport = true → t.protSet.shortReport = false →
              (t.tile i).prot.short = { (s.tile i).prot.short with active := false })
          ∧ (s.protSet.shortReport = false → t.protSet.shortReport = true → (s.tile i).prot.short.cond = true →
              (t.tile i).prot.short = ⟨true, true, true⟩)
          ∧ (t.tile i).prot.overheat = (s.tile i).prot.overheat ∧ (t.tile i).prot.lost = (s.tile i).prot.lost
          ∧ (t.tile i).prot.probe = (s.tile i).prot.probe ∧ (t.tile i).prot.p = protFactor (t.tile i).prot
          ∧ (t.tile i).prot.overheatBlank = (s.tile i).prot.overheatBlank
          ∧ (∀ g, ((s.tile i).chain.state = .active ∧ (s.tile i).slew.ga = some g)
                ∨ ((s.tile i).chain.state = .unprofiled ∧ g = ⟨4096, 4096, 4096⟩) →
              (t.tile i).prot.p ≠ (s.tile i).prot.p →
              (t.tile i).chain.pending = some (formed s.showRec.m (usedFactor (t.tile i)) s.budget.sb g))
          ∧ ((t.tile i).prot.p = (s.tile i).prot.p →
              (t.tile i).chain = (s.tile i).chain ∧ (t.tile i).eng = (s.tile i).eng)
          ∧ SameButPending (s.tile i).chain (t.tile i).chain ∧ (t.tile i).temp = (s.tile i).temp
          ∧ (t.tile i).slew = (s.tile i).slew ∧ (t.tile i).held = (s.tile i).held)
      ∧ (t.port p).result = some ⟨.setProtect, .done, none, .protect t.protSet t.chain.missLimit t.chain.roundInterval⟩
      ∧ (t.port p).busy = none
      ∧ t = { s with ports := t.ports, auth := trafficAuth p s, protSet := t.protSet, chain := t.chain, tiles := t.tiles }

/-- SET-BUDGET (R148, R149): the settings given are held clamped; a budget of 0 turns the unit off with Sb 4096 and keeps the latched
flag; a changed budget or mode, or a unit that was off, is evaluated at once against the held estimate from state CLEAR, and trips
as a trip only where the unit was not TRIPPED; else the unit stands. Where Sb has changed, every ACTIVE slot that has applied gains and
every UNPROFILED slot is re-formed with it, and no other slot moves (R99, R100). That flags and trip count follow the state under
REPORT too is the model's reading (log entry 31). -/
def Obligations.SetBudgetActsAtOnce : Prop :=
  ∀ (p : Port) (block : List Byte) (x : BudgetBlock) (s : State), Accepts .setBudget p s → readBudget block = some x →
    ∃ t, exec (.setBudget p block) s = .next t
      ∧ t.budget.set.budget = (x.budget.map fun v => if v = 0 then 0 else max 100 v).getD s.budget.set.budget
      ∧ t.budget.set.mode = x.mode.getD s.budget.set.mode
      ∧ t.budget.set.hysteresis = (x.hysteresis.map fun v => max 1 (min 50 v)).getD s.budget.set.hysteresis
      ∧ t.budget.set.count = (x.count.map fun v => max 1 (min 255 v)).getD s.budget.set.count
      ∧ t.budget.estimate = s.budget.estimate
      ∧ (t.budget.set.budget = 0 → t.budget.state = .off ∧ t.budget.sb = 4096 ∧ t.budget.hold = 0
          ∧ t.budget.active = false ∧ t.budget.latched = s.budget.latched ∧ t.budget.trips = s.budget.trips)
      ∧ (t.budget.set.budget ≠ 0 → t.budget.set.budget = s.budget.set.budget → t.budget.set.mode = s.budget.set.mode →
          s.budget.state ≠ .off → t.budget = { s.budget with set := t.budget.set })
      ∧ (t.budget.set.budget ≠ 0 →
          t.budget.set.budget ≠ s.budget.set.budget ∨ t.budget.set.mode ≠ s.budget.set.mode ∨ s.budget.state = .off →
          (s.budget.estimate ≤ t.budget.set.budget * 10 → t.budget.state = .clear ∧ t.budget.sb = 4096
            ∧ t.budget.active = false ∧ t.budget.latched = s.budget.latched ∧ t.budget.trips = s.budget.trips)
          ∧ (t.budget.set.budget * 10 < s.budget.estimate → t.budget.state = .tripped ∧ t.budget.active = true
            ∧ t.budget.sb = (if t.budget.set.mode = .report then 4096
                else max 1024 (min 4096 (t.budget.set.budget * 10 * 4096 / s.budget.estimate)))
            ∧ t.budget.latched = (s.budget.latched || s.budget.state != .tripped)
            ∧ t.budget.trips = (if s.budget.state = .tripped then s.budget.trips else (s.budget.trips + 1) % 65536)))
      ∧ (t.budget.sb = s.budget.sb → t.tiles = s.tiles)
      ∧ (t.budget.sb ≠ s.budget.sb → ∀ i g, ((s.tile i).chain.state = .active ∧ (s.tile i).slew.ga = some g)
            ∨ ((s.tile i).chain.state = .unprofiled ∧ g = ⟨4096, 4096, 4096⟩) →
          (t.tile i).chain.pending = some (formed s.showRec.m (usedFactor (s.tile i)) t.budget.sb g)
          ∧ (t.tile i).eng.formedBy = some .reform ∧ (t.tile i).eng.sbUsed = some t.budget.sb)
      ∧ (∀ i, (s.tile i).chain.state ≠ .active → (s.tile i).chain.state ≠ .unprofiled → t.tile i = s.tile i)
      ∧ (∀ i, (s.tile i).chain.state = .active → (s.tile i).slew.ga = none → t.tile i = s.tile i)
      ∧ (∀ i, SameButPending (s.tile i).chain (t.tile i).chain ∧ (t.tile i).slew = (s.tile i).slew
          ∧ (t.tile i).prot = (s.tile i).prot ∧ (t.tile i).temp = (s.tile i).temp ∧ (t.tile i).held = (s.tile i).held)
      ∧ PortsAfter p ⟨.setBudget, .done, none, .budget t.budget.set t.budget.state t.budget.sb t.budget.estimate⟩
          { cond := s.budget.active != t.budget.active || s.budget.latched != t.budget.latched } s t
      ∧ t = { s with ports := t.ports, auth := trafficAuth p s, budget := t.budget, tiles := t.tiles }

/-- SET-TRACK (R107 to R110). On a slot that is not VACANT it sets the override and the manual gains; an ACTIVE slot that it leaves in
FIXED, newly or with other manual gains, jumps to them and is re-formed at once; every other slot, and every other field of this
one, stands. On a VACANT slot it is REFUSED NOTFOUND; that a refusal carries no result data is the model's choice (log entry 12). -/
def Obligations.SetTrackSetsOneSlot : Prop :=
  ∀ (p : Port) (block : List Byte) (x : TrackBlock) (s : State), Accepts .setTrack p s → readTrack block = some x →
    ((s.tile x.slot).chain.state = .vacant → ∃ t, exec (.setTrack p block) s = .next t
      ∧ PortsAfter p ⟨.setTrack, .refused, some .notFound, .nothing⟩ {} s t
      ∧ t = { s with ports := t.ports, auth := trafficAuth p s })
    ∧ ((s.tile x.slot).chain.state ≠ .vacant → ∃ t, exec (.setTrack p block) s = .next t
      ∧ (t.tile x.slot).slew.manual = (x.manual.map fun g => ⟨min 4096 g.r, min 4096 g.g, min 4096 g.b⟩).getD
          (s.tile x.slot).slew.manual
      ∧ (∀ m, x.choice = .mode m → (t.tile x.slot).slew.override = some m)
      ∧ (x.choice = .profile → (t.tile x.slot).slew.override = none)
      ∧ (x.choice = .keep → (t.tile x.slot).slew.override = (s.tile x.slot).slew.override)
      ∧ ((s.tile x.slot).chain.state = .active → (t.tile x.slot).mode = some .fixed →
          ((s.tile x.slot).mode ≠ some .fixed ∨ (t.tile x.slot).slew.manual ≠ (s.tile x.slot).slew.manual) →
          (t.tile x.slot).slew.ga = some (t.tile x.slot).slew.manual
          ∧ (t.tile x.slot).chain = { (s.tile x.slot).chain with
              pending := some (formed s.showRec.m (usedFactor (s.tile x.slot)) s.budget.sb (t.tile x.slot).slew.manual) }
          ∧ (t.tile x.slot).eng = { (s.tile x.slot).eng with
              gainsUsed := some (t.tile x.slot).slew.manual, mUsed := some s.showRec.m, pUsed := some (usedFactor (s.tile x.slot))
              sbUsed := some s.budget.sb, formedBy := some .reform }
          ∧ t.tile x.slot = { s.tile x.slot with chain := (t.tile x.slot).chain, eng := (t.tile x.slot).eng
                                                 slew := { (s.tile x.slot).slew with
              override := (t.tile x.slot).slew.override, manual := (t.tile x.slot).slew.manual
              ga := (t.tile x.slot).slew.ga } })
      ∧ ((s.tile x.slot).chain.state ≠ .active ∨ (t.tile x.slot).mode ≠ some .fixed
            ∨ ((s.tile x.slot).mode = some .fixed ∧ (t.tile x.slot).slew.manual = (s.tile x.slot).slew.manual) →
          t.tile x.slot = { s.tile x.slot with slew := { (s.tile x.slot).slew with
            override := (t.tile x.slot).slew.override, manual := (t.tile x.slot).slew.manual } })
      ∧ (∀ j, j ≠ x.slot → t.tile j = s.tile j)
      ∧ PortsAfter p ⟨.setTrack, .done, none, .track x.slot (t.tile x.slot).slew.override (t.tile x.slot).slew.manual
          (t.tile x.slot).mode (t.tile x.slot).slew.ga⟩ {} s t
      ∧ t = { s with ports := t.ports, auth := trafficAuth p s, tiles := t.tiles })

/-- CLEAR-FAULTS naming a slot that is not VACANT (R16, R140, R141), with P at every slot what its actions make it: a LOST slot whose
answering flag is set returns, PROBE becomes INACTIVE, each class whose active flag is then clear loses its latched flag, and a
LATCHED action whose condition is INACTIVE is released; RETRY actions, their timers and every other slot stand, and so does
BUDGET. CLEAR-FAULTS ALL does the same to every slot that is not VACANT, and covers BUDGET (R157): its latched flag goes where its
active flag is clear, both stay where it is set, and Sb, state and hold counter stand. The result data are the five counts of R142
over what is covered. A VACANT slot named is NOTFOUND; that a refusal carries no result data is the model's choice (log entry 12). -/
def Obligations.ClearFaultsAcknowledges : Prop :=
  (∀ (p : Port) (i : Slot) (s : State), Accepts .clearFaults p s → (s.tile i).chain.state ≠ .vacant → FactorInv s →
    ∃ t, exec (.clearFaults p [BitVec.ofNat 8 i.val]) s = .next t
      ∧ Acknowledged s.protSet (s.tile i) (t.tile i) ∧ (∀ j, j ≠ i → t.tile j = s.tile j)
      ∧ (t.port p).result = some ⟨.clearFaults, .done, none, .cleared 1 (returnedBy (s.tile i) (t.tile i))
          (latchedLost (s.tile i) (t.tile i)) (actionsReleased (s.tile i) (t.tile i)) (stillActive (s.tile i) (t.tile i))⟩
      ∧ (t.port p).busy = none
      ∧ t = { s with ports := t.ports, auth := trafficAuth p s, tiles := t.tiles })
    ∧ (∀ (p : Port) (i : Slot) (s : State), Accepts .clearFaults p s → (s.tile i).chain.state = .vacant →
      ∃ t, exec (.clearFaults p [BitVec.ofNat 8 i.val]) s = .next t
        ∧ PortsAfter p ⟨.clearFaults, .refused, some .notFound, .nothing⟩ {} s t
        ∧ t = { s with ports := t.ports, auth := trafficAuth p s })
    ∧ ∀ (p : Port) (s : State), Accepts .clearFaults p s → ∃ t, exec (.clearFaults p [255]) s = .next t
      ∧ t.budget = { s.budget with latched := s.budget.latched && s.budget.active }
      ∧ (s.budget.active = false → s.budget.latched = true → ∀ q, (t.port q).pending.cond = true)
      ∧ (∀ i, (s.tile i).chain.state ≠ .vacant → Acknowledged s.protSet (s.tile i) (t.tile i))
      ∧ (FactorInv s → ∀ i, (s.tile i).chain.state = .vacant → t.tile i = s.tile i)
      ∧ (t.port p).result = some ⟨.clearFaults, .done, none, .cleared
          (overPresent s t fun _ _ => 1) (overPresent s t returnedBy)
          (overPresent s t latchedLost + if s.budget.latched = true ∧ s.budget.active = false then 1 else 0)
          (overPresent s t actionsReleased) (overPresent s t stillActive + if s.budget.active = true then 1 else 0)⟩
      ∧ (t.port p).busy = none
      ∧ t = { s with ports := t.ports, auth := trafficAuth p s, tiles := t.tiles, budget := t.budget }

/-- The expiry of a running retry timer releases the action of its class and stops the timer, whatever the condition (R132, R134): P is
brought up to date, the slot is re-formed where its P has changed, from its applied gains or, UNPROFILED, from 4096, and no other slot
moves. -/
def Obligations.RetryExpiryReleasesTheAction : Prop :=
  ∀ (i : Slot) (cls : TimedClass) (s : State), ((s.tile i).prot.act cls).timer ≠ none →
    ∃ t, exec (.retryTimerExpiry i cls) s = .next t
      ∧ (t.tile i).prot.act cls = ⟨.none, none, none⟩
      ∧ (cls = .hot → (t.tile i).prot.sensorAct = (s.tile i).prot.sensorAct)
      ∧ (cls = .sensor → (t.tile i).prot.hotAct = (s.tile i).prot.hotAct)
      ∧ (t.tile i).prot.conds = (s.tile i).prot.conds ∧ (t.tile i).prot.overheatBlank = (s.tile i).prot.overheatBlank
      ∧ (t.tile i).prot.p = protFactor (t.tile i).prot
      ∧ (∀ g, ((s.tile i).chain.state = .active ∧ (s.tile i).slew.ga = some g)
            ∨ ((s.tile i).chain.state = .unprofiled ∧ g = ⟨4096, 4096, 4096⟩) → (t.tile i).prot.p ≠ (s.tile i).prot.p →
          (t.tile i).chain.pending = some (formed s.showRec.m (usedFactor (t.tile i)) s.budget.sb g))
      ∧ ((t.tile i).prot.p = (s.tile i).prot.p → (t.tile i).chain = (s.tile i).chain ∧ (t.tile i).eng = (s.tile i).eng)
      ∧ SameButPending (s.tile i).chain (t.tile i).chain ∧ (t.tile i).slew = (s.tile i).slew
      ∧ (t.tile i).temp = (s.tile i).temp ∧ (t.tile i).held = (s.tile i).held
      ∧ (∀ j, j ≠ i → t.tile j = s.tile j)
      ∧ (((s.tile i).prot.act cls).kind ≠ .none → ∀ q, (t.port q).pending = (s.port q).pending.union { cond := true })
      ∧ t = { s with ports := t.ports, tiles := t.tiles }

/-! ## The store -/

/-- Accepted store requests begin their write at once and hold the port's slot BUSY until it completes; nothing else changes (R26,
R33, R35, R37, R38, R55, R56): a PUT-PROFILE names its index or takes the lowest empty one, and writes the record with the
sense set its disposition gives. -/
def Obligations.StoreRequestsBeginTheirWrite : Prop :=
  ∀ (p : Port) (block : List Byte) (s : State), s.store.write = none →
    (∀ x k, Accepts .putProfile p s → readPutProfile block = some x →
        (x.index ≠ 0 → k = x.index) → (x.index = 0 → s.store.lowestEmpty = some k) → putRefusal s.store k x.record = none →
      ∃ t r, exec (.putProfile p block) s = .next t
        ∧ r = { x.record with sense := r.sense }
        ∧ (x.record.kind = .base ∨ x.disposition = .clear → r.sense = none)
        ∧ (x.record.kind = .tile → x.disposition = .supply → r.sense = x.record.sense)
        ∧ (∀ q, x.record.kind = .tile → x.disposition = .keep → s.store.profile k = some q → q.kind = .tile →
            q.serial = x.record.serial → r.sense = q.sense)
        ∧ (x.disposition = .keep → s.store.profile k = none → r.sense = none)
        ∧ t.port p = { s.port p with busy := some .putProfile } ∧ (∀ q, q ≠ p → t.port q = s.port q)
        ∧ t = { s with ports := t.ports, auth := trafficAuth p s
                       store := { s.store with write := some ⟨.putProfile k r, some p⟩ } })
    ∧ (∀ k, Accepts .dropProfile p s → readDrop block = some k → (s.store.profile k).isSome = true →
        ¬(s.store.isBase k = true ∧ s.store.linkedTo k = true) →
      ∃ t, exec (.dropProfile p block) s = .next t
        ∧ t.port p = { s.port p with busy := some .dropProfile } ∧ (∀ q, q ≠ p → t.port q = s.port q)
        ∧ t = { s with ports := t.ports, auth := trafficAuth p s
                       store := { s.store with write := some ⟨.dropProfile k, some p⟩ } })
    ∧ (∀ x c, Accepts .putMap p s → readPutMap block = some (x, c) →
        (∀ n y, c = some n → y ≠ x → s.store.entry y ≠ some n) →
      ∃ t, exec (.putMap p block) s = .next t
        ∧ t.port p = { s.port p with busy := some .putMap } ∧ (∀ q, q ≠ p → t.port q = s.port q)
        ∧ t = { s with ports := t.ports, auth := trafficAuth p s
                       store := { s.store with write := some ⟨.putMap x c, some p⟩ } })
    ∧ (Accepts .clearMap p s →
      ∃ t, exec (.clearMap p []) s = .next t
        ∧ t.port p = { s.port p with busy := some .clearMap } ∧ (∀ q, q ≠ p → t.port q = s.port q)
        ∧ t = { s with ports := t.ports, auth := trafficAuth p s
                       store := { s.store with write := some ⟨.clearMap, some p⟩ } })

/-- The store's own conditions refuse in their order and change nothing but the port (R27, R34, R35, R36, R38, R54): STOREBUSY comes
before every other; then FULL, DUPSERIAL, INUSE and BADLINK for a PUT-PROFILE that names its index or takes the lowest empty one,
NOTFOUND and INUSE for a DROP-PROFILE, INUSE for a PUT-MAP whose slot stands at another position. That a refused request carries no
result data is the model's choice (log entry 12). -/
def Obligations.StoreConditionsRefuse : Prop :=
  ∀ (p : Port) (block : List Byte) (s : State),
    (∀ x, Accepts .putProfile p s → readPutProfile block = some x →
      ∀ why, (s.store.write ≠ none ∧ why = .storeBusy)
          ∨ (s.store.write = none ∧ x.index = 0 ∧ (∀ k, 1 ≤ k → k ≤ 96 → s.store.profile k ≠ none) ∧ why = .full)
          ∨ (s.store.write = none ∧ ∃ k, PutTarget s.store x.index k ∧ x.record.kind = .tile ∧ why = .dupSerial
              ∧ ∃ j r, j ≠ k ∧ s.store.profile j = some r ∧ r.kind = .tile ∧ r.serial = x.record.serial)
          ∨ (s.store.write = none ∧ ∃ k, PutTarget s.store x.index k ∧ x.record.kind = .tile ∧ why = .inUse
              ∧ (∀ j r, j ≠ k → s.store.profile j = some r → r.kind = .tile → r.serial ≠ x.record.serial)
              ∧ (∃ r, s.store.profile k = some r ∧ r.kind = .base)
              ∧ ∃ j r, j ≠ k ∧ s.store.profile j = some r ∧ r.link = some k)
          ∨ (s.store.write = none ∧ ∃ k, PutTarget s.store x.index k ∧ why = .badLink
              ∧ (x.record.kind = .tile →
                (∀ j r, j ≠ k → s.store.profile j = some r → r.kind = .tile → r.serial ≠ x.record.serial)
                ∧ ∀ r, s.store.profile k = some r → r.kind = .base →
                    ∀ j q, j ≠ k → s.store.profile j = some q → q.link ≠ some k)
              ∧ BadChainThrough (fun j => if j = k then some x.record else s.store.profile j) k) →
        ∃ t, exec (.putProfile p block) s = .next t ∧ PortsAfter p ⟨.putProfile, .refused, some why, .nothing⟩ {} s t
          ∧ t = { s with ports := t.ports, auth := trafficAuth p s })
    ∧ (∀ k, Accepts .dropProfile p s → readDrop block = some k →
      ∀ why, (s.store.write ≠ none ∧ why = .storeBusy)
          ∨ (s.store.write = none ∧ s.store.profile k = none ∧ why = .notFound)
          ∨ (s.store.write = none ∧ why = .inUse ∧ (∃ r, s.store.profile k = some r ∧ r.kind = .base)
              ∧ ∃ j r, j ≠ k ∧ s.store.profile j = some r ∧ r.link = some k) →
        ∃ t, exec (.dropProfile p block) s = .next t ∧ PortsAfter p ⟨.dropProfile, .refused, some why, .nothing⟩ {} s t
          ∧ t = { s with ports := t.ports, auth := trafficAuth p s })
    ∧ (∀ x c, Accepts .putMap p s → readPutMap block = some (x, c) →
      ∀ why, (s.store.write ≠ none ∧ why = .storeBusy)
          ∨ (s.store.write = none ∧ why = .inUse ∧ ∃ n y, c = some n ∧ y ≠ x ∧ s.store.entry y = some n) →
        ∃ t, exec (.putMap p block) s = .next t ∧ PortsAfter p ⟨.putMap, .refused, some why, .nothing⟩ {} s t
          ∧ t = { s with ports := t.ports, auth := trafficAuth p s })
    ∧ (Accepts .clearMap p s → s.store.write ≠ none →
        ∃ t, exec (.clearMap p []) s = .next t ∧ PortsAfter p ⟨.clearMap, .refused, some .storeBusy, .nothing⟩ {} s t
          ∧ t = { s with ports := t.ports, auth := trafficAuth p s })

/-- A map write completes (R29, R46, R51, R55, R56), with no sense write queued: the entry takes its content, or all 256 are EMPTY, no
other entry and no profile changes, the inverse follows, the request completes DONE with the contents before and after, STORE is told
to every port, the store is IDLE, the slots that wait to bind are tried, and no other slot moves. -/
def Obligations.MapWriteCompletes : Prop :=
  ∀ (p : Port) (s : State), s.store.queue = [] →
    (∀ x c, s.store.write = some ⟨.putMap x c, some p⟩ → ∃ t, exec .storeWriteComplete s = .next t
      ∧ t.store.entry x = c ∧ (∀ y, y ≠ x → t.store.entry y = s.store.entry y) ∧ (∀ k, t.store.profile k = s.store.profile k)
      ∧ t.store.write = none
      ∧ (∀ i, c ≠ some i → s.store.entry x = some i → t.inverse.get i = none)
      ∧ (∀ i, c = some i → t.inverse.get i = some x)
      ∧ (∀ i, c ≠ some i → s.store.entry x ≠ some i → t.inverse.get i = s.inverse.get i)
      ∧ (t.port p).result = some ⟨.putMap, .done, none, .putMap x (s.store.entry x) c⟩ ∧ (t.port p).busy = none
      ∧ (∀ q, (t.port q).pending.store = true) ∧ WaitingSlotsAreTried s t
      ∧ (∀ i, (t.tile i).prot = (s.tile i).prot)
      ∧ (∀ i, (s.tile i).chain.waits = false → t.tile i = s.tile i))
    ∧ (s.store.write = some ⟨.clearMap, some p⟩ → ∃ t, exec .storeWriteComplete s = .next t
      ∧ (∀ y, t.store.entry y = none) ∧ (∀ k, t.store.profile k = s.store.profile k) ∧ t.store.write = none
      ∧ (∀ i, t.inverse.get i = none)
      ∧ (t.port p).result = some ⟨.clearMap, .done, none, .clearMap s.store.mapped⟩ ∧ (t.port p).busy = none
      ∧ (∀ q, (t.port q).pending.store = true) ∧ WaitingSlotsAreTried s t
      ∧ (∀ i, (t.tile i).prot = (s.tile i).prot)
      ∧ (∀ i, (s.tile i).chain.waits = false → t.tile i = s.tile i))

/-- A profile write completes. A PUT-PROFILE or DROP-PROFILE with no sense write queued (R29, R37, R38, R45, R46, R47, R48): the index
takes its new content and no other does, the map and its inverse stand, the request completes DONE at its port with the index and the
slot bound to it, after a put and before a drop, STORE is told to every port; the bound slots that depend on the index are resolved
again, those that wait are tried, an ACTIVE slot that resolves keeps its state, its coefficients and its applied gains. A sense write
of a record that is still there (R28, R170) replaces its sense set alone, has PROBE cleared at the slot it was handed for where that
still holds its serial, and raises tiles measured of its own sweep, which completes DONE where it was WAITING for this write alone
(R171). The next queued sense write begins where its record still carries its serial; where it does not, it is skipped and PROBE is
raised with reason NOPROFILE (R26, R28). That a sense write knows its sweep by a counter is the model's choice (log entry 21). -/
def Obligations.ProfileWriteCompletes : Prop :=
  (∀ (p : Port) (k : Nat) (s : State), s.store.queue = [] → 1 ≤ k → k ≤ 96 →
    (∀ r, s.store.write = some ⟨.putProfile k r, some p⟩ → ∃ t, exec .storeWriteComplete s = .next t
      ∧ t.store.profile k = some r ∧ (∀ j, j ≠ k → t.store.profile j = s.store.profile j)
      ∧ t.store.map = s.store.map ∧ t.inverse = s.inverse ∧ t.store.write = none
      ∧ (∃ i, (t.port p).result = some ⟨.putProfile, .done, none, .putProfile k i⟩
          ∧ (∀ j, i = some j → (t.tile j).chain.bound = k) ∧ (i = none → ∀ j, (t.tile j).chain.bound ≠ k))
      ∧ (t.port p).busy = none ∧ (∀ q, (t.port q).pending.store = true)
      ∧ BoundSlotsAreResolvedAgain k s t ∧ WaitingSlotsAreTried s t ∧ (∀ i, (t.tile i).prot = (s.tile i).prot)
      ∧ (∀ i w, (s.tile i).chain.state = .active → (s.tile i).chain.bound = k → r.kind = .tile →
          r.serial = (s.tile i).chain.serial → resolve t.store.profile k r = .ok w →
          t.tile i = { s.tile i with held := .full w }))
    ∧ (s.store.write = some ⟨.dropProfile k, some p⟩ → ∃ t, exec .storeWriteComplete s = .next t
      ∧ t.store.profile k = none ∧ (∀ j, j ≠ k → t.store.profile j = s.store.profile j)
      ∧ t.store.map = s.store.map ∧ t.inverse = s.inverse ∧ t.store.write = none
      ∧ (∃ i, (t.port p).result = some ⟨.dropProfile, .done, none, .dropProfile k i⟩
          ∧ (∀ j, i = some j → (s.tile j).chain.bound = k) ∧ (i = none → ∀ j, (s.tile j).chain.bound ≠ k))
      ∧ (t.port p).busy = none ∧ (∀ q, (t.port q).pending.store = true)
      ∧ BoundSlotsAreResolvedAgain k s t ∧ WaitingSlotsAreTried s t ∧ (∀ i, (t.tile i).prot = (s.tile i).prot)))
    ∧ (∀ (w : SenseWrite) (r : Profile) (s : State), s.store.queue = [] → s.store.write = some ⟨.senseWrite w, none⟩ →
        s.store.profile w.index = some r → (s.sweep.state = .waiting → s.sweep.outstanding ≠ 0) →
      ∃ t, exec .storeWriteComplete s = .next t
        ∧ t.store.profile w.index = some { r with sense := some w.sense }
        ∧ (∀ j, j ≠ w.index → t.store.profile j = s.store.profile j)
        ∧ t.store.map = s.store.map ∧ t.inverse = s.inverse ∧ t.store.write = none
        ∧ (∀ q, (t.port q).pending.store = true)
        ∧ BoundSlotsAreResolvedAgain w.index s t ∧ WaitingSlotsAreTried s t
        ∧ (StillThere w t → (t.tile w.slot).prot = { (s.tile w.slot).prot with
            probe := { (s.tile w.slot).prot.probe with cond := false, active := false } })
        ∧ (¬StillThere w t → (t.tile w.slot).prot = (s.tile w.slot).prot)
        ∧ (∀ i, i ≠ w.slot → (t.tile i).prot = (s.tile i).prot)
        ∧ ((s.sweep.state = .none ∨ s.sweep.id ≠ w.sweepId) → t.sweep = s.sweep ∧ t.token = s.token)
        ∧ (s.sweep.state ≠ .none → s.sweep.id = w.sweepId →
          (s.sweep.state = .running ∨ 1 < s.sweep.outstanding → t.token = s.token ∧ t.sweep = { s.sweep with
              measured := s.sweep.measured + 1, outstanding := s.sweep.outstanding - 1 })
          ∧ ∀ p, s.sweep.state = .waiting → s.sweep.outstanding = 1 → s.sweep.issuer = some p →
            t.token = .free ∧ t.sweep.state = .none ∧ (t.port p).busy = none
            ∧ (t.port p).result = some ⟨.sweep, .done, none, .sweep (s.sweep.measured + 1) s.sweep.failed s.sweep.skipped
                s.sweep.passed s.sweep.lastReached 0⟩))
    ∧ ∀ (x : StoreWrite) (v : SenseWrite) (rest : List SenseWrite) (s : State), s.store.write = some x →
        s.store.queue = v :: rest → ∃ t, exec .storeWriteComplete s = .next t
      ∧ (∀ r, t.store.profile v.index = some r → r.kind = .tile → r.serial = some v.serial →
          t.store.write = some ⟨.senseWrite v, none⟩ ∧ t.store.queue = rest)
      ∧ ((∀ r, t.store.profile v.index = some r → r.kind = .tile → r.serial ≠ some v.serial) →
          (rest = [] → t.store.write = none ∧ t.store.queue = [])
          ∧ (StillThere v t → (t.tile v.slot).prot.probe = ⟨true, true, true⟩
              ∧ (t.tile v.slot).prot.probeReason = some .noProfile ∧ (t.tile v.slot).prot.probeChan = none)
          ∧ (rest = [] → x.op.request ≠ none → s.sweep.state = .running → s.sweep.id = v.sweepId →
              t.sweep = { s.sweep with failed := s.sweep.failed + 1, outstanding := s.sweep.outstanding - 1 }))

/-! ## The tile chain -/

/-- A round starts with no round and no RELEARN in progress (R3, R4): its timer starts, and where some slot is not VACANT the lowest
such slot is sent a POLL and nothing else changes. A waiting RELEARN sends ENUM 0, and nothing else changes but that no round runs
until it ends (R20). -/
def Obligations.RoundOrEnumerationBegins : Prop :=
  ∀ (s : State), s.inReset = false → s.chain.activity = .idle →
    (∀ i : Slot, (∀ x, s.token ≠ .relearn x) → (s.tile i).chain.state ≠ .vacant →
        (∀ j, j < i → (s.tile j).chain.state = .vacant) →
      exec .roundStart s = .next { s with chain := { s.chain with
        roundTimer := some 0, startNow := false, activity := .poll i } })
    ∧ ∀ x, s.token = .relearn x →
      exec .relearnEnumerationStart s = .next { s with chain := { s.chain with
        activity := .enum 0, roundTimer := none, startNow := false } }

/-- A valid POLL reply (R8, R9, R10, R12, R14, R64, R75): the miss count is 0, the polled flag is set unless the slot is LOST, the
confirmed coefficients are the echo, the reading, fault, lit hours and load are taken as reported; a bound JOINING slot becomes
ACTIVE, a LOST slot returns under AUTO and is answering under ON-CLEAR, and every other slot keeps its state; the next slot that is
not VACANT is polled. -/
def Obligations.PollReplyUpdatesTheSlot : Prop :=
  ∀ (i : Slot) (temp : Option Int) (fault : Bool) (hours load : Nat) (echo : RGB Nat) (s : State),
    s.chain.activity = .poll i → pollReplyOk temp hours load echo = true →
    ∃ t, exec (.pollReply temp fault hours load echo) s = .next t
      ∧ (t.tile i).chain.missCount = 0 ∧ (t.tile i).chain.confirmed = some echo
      ∧ (t.tile i).chain.polled = ((s.tile i).chain.polled || (s.tile i).chain.state != .lost)
      ∧ (t.tile i).chain.serial = (s.tile i).chain.serial ∧ (t.tile i).chain.bound = (s.tile i).chain.bound
      ∧ (t.tile i).eng.hours = some hours ∧ (t.tile i).eng.load = some load ∧ (t.tile i).temp.fault = some fault
      ∧ (∀ v, temp = some v → (t.tile i).temp.own = .value v
          ∧ ((t.tile i).temp.ownValid = true ↔ fault = false ∧ -40 ≤ v ∧ v ≤ 125))
      ∧ (temp = none → (t.tile i).temp.own = .none ∧ (t.tile i).temp.ownValid = false)
      ∧ ((s.tile i).chain.state = .joining → (s.tile i).chain.bound ≠ 0 → (t.tile i).chain.state = .active)
      ∧ ((s.tile i).chain.state = .joining → (s.tile i).chain.bound = 0 → (t.tile i).chain.state = .joining)
      ∧ (∀ f, (s.tile i).chain.state = .lost → (s.tile i).chain.former = some f → s.protSet.lostPolicy = .auto →
          (t.tile i).chain.state = f.state ∧ (t.tile i).chain.former = none ∧ (t.tile i).prot.lost.cond = false)
      ∧ ((s.tile i).chain.state = .lost → s.protSet.lostPolicy = .onClear →
          (t.tile i).chain.state = .lost ∧ (t.tile i).chain.answering = true)
      ∧ ((s.tile i).chain.state = .active ∨ (s.tile i).chain.state = .unprofiled →
          (t.tile i).chain.state = (s.tile i).chain.state)
      ∧ (∀ j, j ≠ i → SameButPending (s.tile j).chain (t.tile j).chain ∧ (t.tile j).temp = (s.tile j).temp)
      ∧ (∀ j, i < j → (s.tile j).chain.state ≠ .vacant → (∀ k, i < k → k < j → (s.tile k).chain.state = .vacant) →
          t.chain.activity = .poll j ∧ t.wall = s.wall ∧ ∀ k, k ≠ i → t.tile k = s.tile k)
      ∧ t.showRec = s.showRec ∧ t.store.profiles = s.store.profiles ∧ t.store.map = s.store.map

/-- A POLL, PUSH, PATCH or SENSE with no valid reply (R9, R11, R13): the slot's miss count rises by one, up to 15; a JOINING, ACTIVE
or UNPROFILED slot whose count is then at the miss limit or above becomes LOST with its state recorded and the LOST condition
raised; a LOST slot's answering flag clears; serial, bound profile and confirmed coefficients stand, and no other slot's record
moves but for its pending coefficients. -/
def Obligations.MissIsCounted : Prop :=
  ∀ (c : Instr) (i : Slot) (s : State), missedSlot s.chain.activity = some i →
    (c = .pollMiss ∧ s.chain.activity = .poll i)
      ∨ (c = .pushMiss ∧ ∃ x, s.chain.activity = .push i x)
      ∨ (c = .patchMiss ∧ ((∃ x, s.chain.activity = .patch i x) ∨ ∃ x r e, s.chain.activity = .patchOff i x r e))
      ∨ (c = .senseMiss ∧ ∃ x r, s.chain.activity = .sense i x r) →
    ∃ t, exec c s = .next t
      ∧ (t.tile i).chain.missCount = min 15 ((s.tile i).chain.missCount + 1)
      ∧ (t.tile i).chain.serial = (s.tile i).chain.serial ∧ (t.tile i).chain.bound = (s.tile i).chain.bound
      ∧ (t.tile i).chain.confirmed = (s.tile i).chain.confirmed
      ∧ (∀ f, (s.tile i).chain.state.former = some f → s.chain.missLimit ≤ min 15 ((s.tile i).chain.missCount + 1) →
          (t.tile i).chain.state = .lost ∧ (t.tile i).chain.former = some f ∧ (t.tile i).chain.answering = false
            ∧ (t.tile i).prot.lost = ⟨true, true, true⟩)
      ∧ (min 15 ((s.tile i).chain.missCount + 1) < s.chain.missLimit →
          (t.tile i).chain.state = (s.tile i).chain.state ∧ (t.tile i).prot.lost = (s.tile i).prot.lost)
      ∧ ((s.tile i).chain.state = .lost → (t.tile i).chain.state = .lost ∧ (t.tile i).chain.answering = false)
      ∧ (∀ j, j ≠ i → SameButPending (s.tile j).chain (t.tile j).chain)

/-- A valid PUSH, PATCH or SENSE reply sets the slot's miss count to 0, and a PUSH reply makes its echo the confirmed coefficients
(R9, R11, R166, R167); no slot changes its state. -/
def Obligations.AnsweredFrameClearsTheMissCount : Prop :=
  ∀ (i : Slot) (s : State),
    (∀ x echo, s.chain.activity = .push i x → coefFieldOk echo = true → ∃ t, exec (.pushReply echo) s = .next t
      ∧ t.tile i = { s.tile i with chain := { (s.tile i).chain with missCount := 0, confirmed := some echo } }
      ∧ (∀ j, j ≠ i → t.tile j = s.tile j)
      ∧ t = { s with tiles := t.tiles, chain := { s.chain with activity := t.chain.activity } })
    ∧ (∀ x, s.chain.activity = .patch i x → discarding s = false → ∃ t, exec .patchReply s = .next t
      ∧ t.tile i = { s.tile i with chain := { (s.tile i).chain with missCount := 0 } }
      ∧ (∀ j, j ≠ i → t.tile j = s.tile j)
      ∧ t = { s with tiles := t.tiles, chain := { s.chain with activity := .settle i x } })
    ∧ (∀ x r st count, s.chain.activity = .sense i x r → count ≤ 4095 → ∃ t, exec (.senseReply st count) s = .next t
      ∧ t.tile i = { s.tile i with chain := { (s.tile i).chain with missCount := 0 } }
      ∧ (∀ j, j ≠ i → t.tile j = s.tile j)
      ∧ t = { s with tiles := t.tiles, sweep := t.sweep, chain := { s.chain with activity := t.chain.activity } })

/-- The end of an ADOPT (R9, R12, R15, R18): with no reply no slot's record moves but for pending coefficients; a reply with the slot's
own serial returns it under AUTO and sets its answering flag under ON-CLEAR, with confirmed coefficients (0, 0, 0) and a miss count of
0 in both cases; a reply with another serial makes it enter JOINING with that serial and a fresh record, bound at once, or UNPROFILED
where no record carries the serial. -/
def Obligations.AdoptReturnsOrReplacesTheTile : Prop :=
  ∀ (i : Slot) (s : State), s.chain.activity = .adopt i →
    (∃ t, exec .adoptNoReply s = .next t ∧ ∀ j, SameButPending (s.tile j).chain (t.tile j).chain)
    ∧ (∀ serial f, (s.tile i).chain.serial = some serial → (s.tile i).chain.state = .lost →
        (s.tile i).chain.former = some f → ∃ t, exec (.adoptReply serial) s = .next t
      ∧ (t.tile i).chain.missCount = 0 ∧ (t.tile i).chain.confirmed = some ⟨0, 0, 0⟩
      ∧ (t.tile i).chain.serial = some serial ∧ (t.tile i).chain.bound = (s.tile i).chain.bound
      ∧ (s.protSet.lostPolicy = .auto → (t.tile i).chain.state = f.state ∧ (t.tile i).chain.former = none
          ∧ (t.tile i).prot.lost.cond = false)
      ∧ (s.protSet.lostPolicy = .onClear → (t.tile i).chain.state = .lost ∧ (t.tile i).chain.answering = true)
      ∧ ∀ j, j ≠ i → SameButPending (s.tile j).chain (t.tile j).chain)
    ∧ (∀ serial, (s.tile i).chain.serial ≠ some serial → ∃ t, exec (.adoptReply serial) s = .next t
      ∧ (t.tile i).chain.serial = some serial ∧ (t.tile i).chain.missCount = 0
      ∧ (t.tile i).chain.confirmed = some ⟨0, 0, 0⟩ ∧ (t.tile i).chain.polled = false ∧ (t.tile i).chain.former = none
      ∧ (t.tile i).temp = {} ∧ (t.tile i).eng.hours = none ∧ (t.tile i).slew.override = none
      ∧ (t.tile i).slew.manual = ⟨4096, 4096, 4096⟩
      ∧ (s.store.findTile serial = none → (t.tile i).chain.state = .unprofiled ∧ (t.tile i).chain.bound = 0
          ∧ (t.tile i).chain.reason = some .noProfile)
      ∧ (∀ k r w, s.store.findTile serial = some k → (∀ j, j ≠ i → (s.tile j).chain.bound ≠ k) →
          s.store.profile k = some r → resolve s.store.profile k r = .ok w →
          (t.tile i).chain.state = .joining ∧ (t.tile i).chain.bound = k ∧ (t.tile i).held = .full w)
      ∧ ∀ j, j ≠ i → SameButPending (s.tile j).chain (t.tile j).chain)

/-- A reply to an ENUM (R12, R14, R20, R21, R22): a VACANT slot, or one with another serial, enters JOINING with the reported serial and
a fresh record; one with the same serial keeps everything, or, LOST, returns under AUTO and has its answering flag set under
ON-CLEAR; the next ENUM follows. A reply below ENUM 64 on which an ABORT waits ends the job ABORTED BYPORT: the slots reached are bound,
the slot's own change is told by TILE (R19), and the slots above are not touched. A reply to ENUM 64 sets CHAIN-LONG, tells COND, and
ends the job DONE with 64 tiles on its port; that an ABORT then comes too late is the model's choice (log entry 10), and so is that an
aborted RELEARN carries no result data (log entry 12). -/
def Obligations.EnumReplyEntersTheSlot : Prop :=
  ∀ (serial : Serial) (s : State),
    (∀ i : Slot, s.chain.activity = .enum i.val → (∀ p, s.token = .relearn (some p) → (s.port p).abortRequested = false) →
      ∃ t, exec (.enumReply serial) s = .next t ∧ t.chain = { s.chain with activity := .enum (i.val + 1) }
        ∧ ((s.tile i).chain.state = .vacant ∨ (s.tile i).chain.serial ≠ some serial →
            (t.tile i).chain = ⟨.joining, some serial, 0, 0, none, false, none, false, none, none⟩ ∧ (t.tile i).temp = {}
            ∧ (t.tile i).held = .none ∧ (t.tile i).prot = {} ∧ (t.tile i).slew = {} ∧ (t.tile i).eng = {})
        ∧ ((s.tile i).chain.state ≠ .vacant → (s.tile i).chain.state ≠ .lost → (s.tile i).chain.serial = some serial →
            t.tile i = s.tile i)
        ∧ (∀ f, (s.tile i).chain.state = .lost → (s.tile i).chain.serial = some serial → (s.tile i).chain.former = some f →
            s.protSet.lostPolicy = .auto → (t.tile i).chain = { (s.tile i).chain with
              state := f.state, former := none, answering := false } ∧ (t.tile i).prot.lost.cond = false)
        ∧ ((s.tile i).chain.state = .lost → (s.tile i).chain.serial = some serial → s.protSet.lostPolicy = .onClear →
            t.tile i = { s.tile i with chain := { (s.tile i).chain with answering := true } })
        ∧ (∀ j, j ≠ i → t.tile j = s.tile j)
        ∧ t = { s with tiles := t.tiles, ports := t.ports, chain := t.chain })
    ∧ (∀ (i : Slot) (p : Port), s.chain.activity = .enum i.val → s.token = .relearn (some p) →
        (s.port p).abortRequested = true → ∃ t, exec (.enumReply serial) s = .next t
      ∧ t.chain = { s.chain with activity := .idle, startNow := true } ∧ t.token = .free
      ∧ (t.port p).result = some ⟨.relearn, .aborted, some .byPort, .nothing⟩ ∧ (t.port p).busy = none
      ∧ ((s.tile i).chain.state = .vacant ∨ (s.tile i).chain.serial ≠ some serial →
          (t.tile i).chain.serial = some serial ∧ (t.tile i).chain.polled = false ∧ (t.tile i).temp = {} ∧ (t.tile i).prot = {}
          ∧ ((s.tile i).chain.state ≠ .joining → ∀ q, (t.port q).pending.tile = true)
          ∧ (s.store.findTile serial = none → (t.tile i).chain.state = .unprofiled ∧ (t.tile i).chain.bound = 0
              ∧ (t.tile i).chain.reason = some .noProfile))
      ∧ ((s.tile i).chain.state = .active → (s.tile i).chain.serial = some serial → t.tile i = s.tile i)
      ∧ (∀ j, i < j → t.tile j = s.tile j)
      ∧ (∀ j, j < i → (s.tile j).chain.state = .active ∨ (s.tile j).chain.state = .lost → t.tile j = s.tile j)
      ∧ t = { s with tiles := t.tiles, ports := t.ports, chain := t.chain, token := .free })
    ∧ (s.chain.activity = .enum 64 → ∃ t, exec (.enumReply serial) s = .next t
        ∧ t.chain = { s.chain with chainLong := true, tileCount := 64, activity := .idle, startNow := true }
        ∧ t.token = .free ∧ (∀ q, (t.port q).pending.cond = true)
        ∧ (∀ p, s.token = .relearn (some p) →
            (t.port p).result = some ⟨.relearn, .done, none, .relearn 64⟩ ∧ (t.port p).busy = none)
        ∧ ∀ i, (s.tile i).chain.state = .active ∨ (s.tile i).chain.state = .vacant ∨ (s.tile i).chain.state = .lost →
            t.tile i = s.tile i)

/-- An ENUM `n` with no valid reply ends the enumeration (R20, R21, R22): the slots from `n` up become VACANT, CHAIN-LONG clears, the
job ends DONE with `n` tiles on its port, the token is free and the next round starts at once. An ENUM that an ABORT waits on makes
no slot VACANT, and the job ends ABORTED BYPORT with tile count and CHAIN-LONG as they were. That an ABORT comes too late at ENUM 64 is
the model's choice (log entry 10), and so is that an aborted RELEARN carries no result data (log entry 12). -/
def Obligations.EnumWithoutReplyEndsTheJob : Prop :=
  ∀ (n : Nat) (s : State), s.chain.activity = .enum n → n ≤ 64 →
    ((n = 64 ∨ ∀ p, s.token = .relearn (some p) → (s.port p).abortRequested = false) →
      ∃ t, exec .enumNoReply s = .next t
        ∧ (∀ i : Slot, n ≤ i.val → t.tile i = {})
        ∧ (∀ i : Slot, i.val < n → (s.tile i).chain.state = .active ∨ (s.tile i).chain.state = .lost → t.tile i = s.tile i)
        ∧ t.chain = { s.chain with chainLong := false, tileCount := n, activity := .idle, startNow := true }
        ∧ t.token = .free
        ∧ (∀ p, s.token = .relearn (some p) →
            (t.port p).result = some ⟨.relearn, .done, none, .relearn n⟩ ∧ (t.port p).busy = none)
        ∧ t = { s with tiles := t.tiles, ports := t.ports, chain := t.chain, token := .free })
    ∧ (∀ p, n < 64 → s.token = .relearn (some p) → (s.port p).abortRequested = true →
      ∃ t, exec .enumNoReply s = .next t
        ∧ (∀ i : Slot, n ≤ i.val → t.tile i = s.tile i)
        ∧ t.chain = { s.chain with activity := .idle, startNow := true }
        ∧ t.token = .free ∧ (t.port p).result = some ⟨.relearn, .aborted, some .byPort, .nothing⟩
        ∧ (t.port p).busy = none
        ∧ t = { s with tiles := t.tiles, ports := t.ports, chain := t.chain, token := .free })

/-! ## Sweeps and the other jobs -/

/-- A SENSE reply is classed by its count, whatever status it reports (R167): OK is accepted as count * 16 / 4 ^ range (R168), UNDER
sends SENSE at the next range or, at range 3, fails the channel, OVER fails it OVER at range 0 and UNSTABLE above, and no valid reply
fails it NOREPLY. -/
def Obligations.SenseReplyIsClassedByItsCount : Prop :=
  ∀ (i : Slot) (c : Chan) (r : Nat) (s : State), s.chain.activity = .sense i c r → discarding s = false →
    (∀ st count, count ≤ 4095 → ∃ t, exec (.senseReply st count) s = .next t
      ∧ (count < 256 → r < 3 → t.chain = { s.chain with activity := .sense i c (r + 1) } ∧ t.sweep = s.sweep)
      ∧ (count < 256 → 3 ≤ r → t.chain = { s.chain with activity := .patchOff i c r (.failed .under) } ∧ t.sweep = s.sweep)
      ∧ (256 ≤ count → count ≤ 4094 → t.chain = { s.chain with activity := .patchOff i c r .accepted }
          ∧ t.sweep = { s.sweep with readings := s.sweep.readings.put c (some (count * 16 / 4 ^ r)) })
      ∧ (count = 4095 → r = 0 → t.chain = { s.chain with activity := .patchOff i c r (.failed .over) } ∧ t.sweep = s.sweep)
      ∧ (count = 4095 → 0 < r →
          t.chain = { s.chain with activity := .patchOff i c r (.failed .unstable) } ∧ t.sweep = s.sweep)
      ∧ t.ports = s.ports)
    ∧ ∃ t, exec .senseMiss s = .next t
      ∧ t.chain = { s.chain with activity := .patchOff i c r (.failed .noReply) } ∧ t.sweep = s.sweep

/-- A probe step from its start to its end. It starts when the ADOPT of a round is over (R4, R164, R165): with no tile in progress the
slots from the cursor up to the last slot are passed over, skipped or, the first that can be, measured, with its Teff and lit hours
captured and its first channel PATCHed; where none can be, the range is finished, and the sweep completes DONE, or goes into WAITING
while a sense write is outstanding (R171); a tile in progress has its next channel PATCHed, is abandoned as skipped under OVERHEAT, or
fails NOREPLY where it is LOST and NOPROFILE where it is otherwise not ACTIVE or not bound. From the settle wait on (R130, R166, R168,
R169, R172, R173): SENSE at range 0 follows the settle wait, or
PATCH OFF where an ABORT waits. The reply to PATCH OFF ends the step and with it the poll phase (R4, R80): a channel that failed is
reported and tallied and the tile is left, an accepted channel that another follows keeps the readings, a tile whose three channels
are accepted is handed to an idle store as a sense write, and a step being wound down leaves the sweep record as it is. That the cursor
slot and the last slot reached stay when a sweep ends is the model's choice (log entry 32). -/
def Obligations.ProbeStepRunsToItsEnd : Prop :=
  ∀ (i : Slot) (c : Chan) (s : State),
    (s.chain.activity = .settle i c → s.chain.windDown = false →
        (∀ p, s.sweep.issuer = some p → (s.port p).abortRequested = false) →
      exec .settleWaitEnd s = .next { s with chain := { s.chain with activity := .sense i c 0 } })
    ∧ (∀ p, s.chain.activity = .settle i c → s.sweep.issuer = some p → s.sweep.state ≠ .none →
        (s.port p).abortRequested = true →
      exec .settleWaitEnd s = .next { s with chain := { s.chain with activity := .patchOff i c 0 .discarded } })
    ∧ (∀ r e, s.chain.activity = .patchOff i c r e → ∃ t, exec .patchReply s = .next t
      ∧ (t.tile i).chain.missCount = 0 ∧ t.wall.number = (s.wall.number + 1) % 65536
      ∧ (t.chain.activity = .idle ∨ ∃ j x, t.chain.activity = .push j x)
      ∧ (s.chain.windDown = true → t.sweep = s.sweep ∧ t.chain.windDown = false)
      ∧ (s.chain.windDown = false → (∀ p, s.sweep.issuer = some p → (s.port p).abortRequested = false) →
        (∀ why, e = .failed why → why ≠ .noProfile →
          t.sweep = { s.sweep with tile := none, tsense := none, hsense := none, readings := ⟨none, none, none⟩
                                   failed := s.sweep.failed + 1 }
          ∧ (t.tile i).prot.probe = ⟨true, true, true⟩ ∧ (t.tile i).prot.probeReason = some why
          ∧ (t.tile i).prot.probeChan = some c)
        ∧ (∀ x, e = .accepted → s.sweep.nextChan = some x → t.sweep = s.sweep)
        ∧ (∀ x n r red green blue te hs, e = .accepted → s.sweep.params = some x → x.chans = ⟨true, true, true⟩ →
            s.sweep.readings = ⟨some red, some green, some blue⟩ → s.sweep.tsense = some te → s.sweep.hsense = some hs →
            (s.tile i).chain.state = .active → (s.tile i).chain.bound ≠ 0 → (s.tile i).chain.serial = some n →
            s.store.write = none → s.store.queue = [] → s.store.profile (s.tile i).chain.bound = some r →
            r.kind = .tile → r.serial = some n →
          t.store.write = some ⟨.senseWrite ⟨(s.tile i).chain.bound, n, ⟨⟨red, green, blue⟩, te, hs⟩, i, s.sweep.id⟩, none⟩
          ∧ t.sweep = { s.sweep with tile := none, tsense := none, hsense := none, readings := ⟨none, none, none⟩
                                     outstanding := s.sweep.outstanding + 1 })))
    ∧ (∀ x n, s.chain.activity = .adopt i → s.sweep.state = .running → s.sweep.params = some x → s.sweep.tile = none →
        s.sweep.cursor = some n →
      (∀ j : Slot, n ≤ j.val → j ≤ x.last → CanBeMeasured x.chans (s.tile j) →
          (∀ m : Slot, n ≤ m.val → m < j → ¬CanBeMeasured x.chans (s.tile m)) → FirstChan x.chans c →
        exec .adoptNoReply s = .next { s with
          chain := { s.chain with activity := .patch j c }
          sweep := { s.sweep with
            tile := some j, tsense := (s.tile j).temp.teff, hsense := some ((s.tile j).eng.hours.getD 0)
            readings := ⟨none, none, none⟩, cursor := some (j.val + 1), lastReached := some j
            passed := s.sweep.passed + countActive s false n j.val
            skipped := s.sweep.skipped + countActive s true n j.val } })
      ∧ ((∀ m : Slot, n ≤ m.val → m ≤ x.last → ¬CanBeMeasured x.chans (s.tile m)) → ∃ t last, exec .adoptNoReply s = .next t
        ∧ last = (if n ≤ x.last.val then some x.last else s.sweep.lastReached)
        ∧ t.wall.number = (s.wall.number + 1) % 65536
        ∧ (s.sweep.outstanding ≠ 0 → t.token = s.token ∧ t.sweep = { s.sweep with
            state := .waiting, cursor := some 64, lastReached := last
            passed := s.sweep.passed + countActive s false n (x.last.val + 1)
            skipped := s.sweep.skipped + countActive s true n (x.last.val + 1) })
        ∧ (∀ p, s.sweep.outstanding = 0 → s.sweep.issuer = some p → t.token = .free ∧ (t.port p).busy = none
          ∧ (t.port p).result = some ⟨.sweep, .done, none, .sweep s.sweep.measured s.sweep.failed
              (s.sweep.skipped + countActive s true n (x.last.val + 1))
              (s.sweep.passed + countActive s false n (x.last.val + 1)) last 0⟩
          ∧ t.sweep = { s.sweep with
              state := .none, cursor := some 64, lastReached := last
              tsense := none, hsense := none, readings := ⟨none, none, none⟩
              passed := s.sweep.passed + countActive s false n (x.last.val + 1)
              skipped := s.sweep.skipped + countActive s true n (x.last.val + 1) })))
    ∧ ∀ k : Slot, s.chain.activity = .adopt k → s.sweep.state = .running → s.sweep.tile = some i →
      ((s.tile i).chain.state = .active → (s.tile i).chain.bound ≠ 0 → (s.tile i).prot.overheat.cond = false →
          s.sweep.nextChan = some c →
        exec .adoptNoReply s = .next { s with chain := { s.chain with activity := .patch i c } })
      ∧ ((s.tile i).chain.state = .active → (s.tile i).chain.bound ≠ 0 → (s.tile i).prot.overheat.cond = true →
        exec .adoptNoReply s = exec .adoptNoReply { s with sweep := { s.sweep with
          tile := none, tsense := none, hsense := none, readings := ⟨none, none, none⟩, skipped := s.sweep.skipped + 1 } })
      ∧ ((s.tile i).chain.state ≠ .active ∨ (s.tile i).chain.bound = 0 → ∃ t, exec .adoptNoReply s = .next t
        ∧ (t.tile i).prot.probe = ⟨true, true, true⟩ ∧ t.sweep.failed = s.sweep.failed + 1
        ∧ ((s.tile i).chain.state = .lost →
            (t.tile i).prot.probeReason = some .noReply ∧ (t.tile i).prot.probeChan = s.sweep.nextChan)
        ∧ ((s.tile i).chain.state ≠ .lost →
            (t.tile i).prot.probeReason = some .noProfile ∧ (t.tile i).prot.probeChan = none))

/-- SWEEP once the first four checks are past (R162, R163, R173, R199): it is refused LIVE while M is above 0; else it takes the token
with a fresh sweep record and holds its slot BUSY; where a sweep of a port that does not hold authority has the token, that sweep
ends ABORTED PREEMPTED with its tallies at the same moment, and a probe step of it that is under way is wound down. That a refused
request carries no result data (log entry 12) and the counter of accepted sweeps (log entry 21) are the model's choices. -/
def Obligations.SweepIsAcceptedWhileDark : Prop :=
  ∀ (p : Port) (block : List Byte) (x : SweepParams) (s : State), Accepts .sweep p s → readSweep block = some x →
    (s.showRec.m ≠ 0 → ∃ t, exec (.sweep p block) s = .next t
      ∧ PortsAfter p ⟨.sweep, .refused, some .live, .nothing⟩ {} s t
      ∧ t = { s with ports := t.ports, auth := trafficAuth p s })
    ∧ (s.showRec.m = 0 → s.token = .free → ∃ t, exec (.sweep p block) s = .next t
      ∧ t.port p = { s.port p with busy := some .sweep } ∧ (∀ q, q ≠ p → t.port q = s.port q)
      ∧ t = { s with ports := t.ports, auth := trafficAuth p s, token := .sweep p
                     sweep := { state := .running, issuer := some p, params := some x, cursor := some x.first.val
                                id := s.sweep.id + 1 } })
    ∧ (∀ y, s.showRec.m = 0 → s.token = .sweep y → s.sweep.issuer = some y → y ≠ p →
      ∃ t, exec (.sweep p block) s = .next t
      ∧ (t.port p).busy = some .sweep ∧ (t.port y).busy = none
      ∧ (t.port y).result = some ⟨.sweep, .aborted, some .preempted,
          .sweep s.sweep.measured s.sweep.failed s.sweep.skipped s.sweep.passed s.sweep.lastReached s.sweep.outstanding⟩
      ∧ (s.sweep.state ≠ .none → s.chain.activity.probing = true → t.chain.windDown = true)
      ∧ ((∀ i c, s.chain.activity ≠ .settle i c) → t.chain.activity = s.chain.activity)
      ∧ (∀ i c, s.sweep.state ≠ .none → s.chain.activity = .settle i c → s.chain.windDown = false →
          t.chain.activity = .patchOff i c 0 .discarded)
      ∧ t = { s with ports := t.ports, auth := trafficAuth p s, token := .sweep p
                     chain := { s.chain with windDown := t.chain.windDown, activity := t.chain.activity }
                     sweep := { state := .running, issuer := some p, params := some x, cursor := some x.first.val
                                id := s.sweep.id + 1 } })

/-- RELEARN once the checks are past (R20, R173, R199): it takes the token and holds its slot BUSY; with no round in progress ENUM 0
is sent and no round runs until it ends, else it waits and the round goes on; a sweep that it pre-empts ends ABORTED PREEMPTED. That
ENUM 0 is sent within the command that accepts the RELEARN is the model's choice (log entry 9). -/
def Obligations.RelearnIsAccepted : Prop :=
  ∀ (p : Port) (s : State), Accepts .relearn p s →
    (s.token = .free → ∃ t, exec (.relearn p []) s = .next t
      ∧ t.port p = { s.port p with busy := some .relearn } ∧ (∀ q, q ≠ p → t.port q = s.port q)
      ∧ (s.chain.activity = .idle →
          t.chain = { s.chain with activity := .enum 0, roundTimer := none, startNow := false })
      ∧ (s.chain.activity ≠ .idle → t.chain = s.chain)
      ∧ t = { s with ports := t.ports, auth := trafficAuth p s, token := .relearn (some p), chain := t.chain })
    ∧ (∀ y, s.token = .sweep y → s.sweep.issuer = some y → y ≠ p → ∃ t, exec (.relearn p []) s = .next t
      ∧ t.token = .relearn (some p) ∧ (t.port p).busy = some .relearn ∧ (t.port y).busy = none
      ∧ (t.port y).result = some ⟨.sweep, .aborted, some .preempted,
          .sweep s.sweep.measured s.sweep.failed s.sweep.skipped s.sweep.passed s.sweep.lastReached s.sweep.outstanding⟩
      ∧ t.sweep.state = .none ∧ t.tiles = s.tiles ∧ t.store = s.store)

/-- RESTART-CHAIN (R23, R104, R160, R189): every slot becomes VACANT with all its records, the chain controller keeps its settings and
tile count and sends ENUM 0 of a RELEARN that belongs to no port, the wall record keeps its number alone, the budget unit keeps its
settings and trip count; the modal job in progress ends ABORTED RESTART on its port; settings, show, authority, store and map
stand. That an aborted RELEARN carries no result data is the model's choice (log entry 12), and so is that a sweep already pre-empted
keeps its result (log entry 33). -/
def Obligations.RestartChainStartsTheWallAfresh : Prop :=
  ∀ (p : Port) (s : State), Accepts .restartChain p s → ∃ t, exec (.restartChain p []) s = .next t
    ∧ (∀ i, t.tile i = {})
    ∧ t.chain = ⟨s.chain.roundInterval, s.chain.missLimit, none, false, 0, false, s.chain.tileCount, .enum 0, false⟩
    ∧ t.token = .relearn none
    ∧ t.wall = ⟨s.wall.number, s.showRec.want, s.showRec.floorRatio, none, 0, 0, none, none, 4096, none, none, s.showRec.want⟩
    ∧ t.budget = { s.budget with
        state := if s.budget.set.budget = 0 then .off else .clear
        sb := 4096, estimate := 0, candidate := 4096, hold := 0, active := false, latched := false }
    ∧ (t.port p).busy = none
    ∧ (∃ job, (t.port p).result = some ⟨.restartChain, .done, none, .restart job (s.tiles.count Tile.present)⟩
        ∧ (s.token = .free → job = none) ∧ (∀ y, s.token = .sweep y → job = some .sweep)
        ∧ ∀ y, s.token = .relearn y → job = some .relearn)
    ∧ (∀ y, s.token = .sweep y → s.sweep.issuer = some y → y ≠ p → t.sweep.state = .none ∧ (t.port y).busy = none
        ∧ (t.port y).result = some ⟨.sweep, .aborted, some .restart,
          .sweep s.sweep.measured s.sweep.failed s.sweep.skipped s.sweep.passed s.sweep.lastReached s.sweep.outstanding⟩)
    ∧ (∀ y, s.token = .relearn (some y) → y ≠ p → (t.port y).busy = none
        ∧ (t.port y).result = some ⟨.relearn, .aborted, some .restart, .nothing⟩)
    ∧ (∀ i, (s.tile i).chain.state ≠ .vacant → ∀ q, (t.port q).pending.tile = true)
    ∧ t = { s with ports := t.ports, auth := trafficAuth p s, token := t.token, chain := t.chain, tiles := t.tiles
                   wall := t.wall, budget := t.budget, sweep := t.sweep }

/-! ## A recomputation

Each statement takes a poll phase that completes at an ADOPT with no reply, while no sweep is RUNNING. -/

/-- The capacities, the contributing test and the target gains of an ACTIVE tile in MODEL or SENSED mode (R84 to R90, R94), with
`lum`, `tref` and `href` the references its mode chooses. -/
def Obligations.CapacityAndTargetGain : Prop :=
  ∀ (k i : Slot) (s : State) (w : Working) (lum : RGB Nat) (tref : Int) (href : Nat),
    s.chain.activity = .adopt k → s.sweep.state ≠ .running → (s.tile i).chain.state = .active →
    (s.tile i).held = .full w → PickedReference (s.tile i) w lum tref href →
    ∃ t e fth fag gt, exec .adoptNoReply s = .next t
      ∧ (t.tile i).eng.fth = some fth ∧ (t.tile i).eng.fag = some fag ∧ (t.tile i).eng.e = some e
      ∧ (t.tile i).eng.gt = some gt
      ∧ (∀ c : Chan,
          (∃ q, Nearest (w.thermal.get c * (((s.tile i).temp.teff.map (· - tref)).getD 0) * 4096) 10000 q
            ∧ (fth.get c : Int) = max 2048 (min 4505 (4096 - q)))
          ∧ (∃ q, Nearest (w.ageing.get c * ((s.tile i).eng.hours.getD 0 - href : Nat) * 4096) 10000000 q
            ∧ (fag.get c : Int) = max 2048 (4096 - q))
          ∧ Nearest (lum.get c * fth.get c * fag.get c) 16777216 (e.get c)
          ∧ (e.get c = 0 → gt.get c = 4096)
          ∧ (0 < e.get c → gt.get c = min 4096 (t.wall.target.get c * 4096 / e.get c)))
      ∧ ((t.tile i).eng.contributing = true ↔
          ∀ c : Chan, 0 < e.get c ∧ s.showRec.want.get c * s.showRec.floorRatio / 4096 ≤ e.get c)
      ∧ (t.tile i).prot.short.cond = !(t.tile i).eng.contributing

/-- The common white (R91, R92): s is the least of 4096 and the per-channel scales of the least capacities, Target is Want * s / 4096
rounded down, and no Target passes what any contributing tile can give. With no contributing tile s is 4096. -/
def Obligations.CommonWhiteIsWithinReach : Prop :=
  ∀ (k : Slot) (s : State), s.chain.activity = .adopt k → s.sweep.state ≠ .running →
    ∃ t, exec .adoptNoReply s = .next t
      ∧ t.wall.number = (s.wall.number + 1) % 65536 ∧ t.wall.wantInUse = s.showRec.want
      ∧ t.wall.floorRatioInUse = s.showRec.floorRatio ∧ t.wall.s ≤ 4096
      ∧ (∀ c : Chan, t.wall.target.get c = s.showRec.want.get c * t.wall.s / 4096)
      ∧ (∀ i e, Contributes (t.tile i) → (t.tile i).eng.e = some e → ∀ c : Chan, t.wall.target.get c ≤ e.get c)
      ∧ ((∀ i, ¬Contributes (t.tile i)) → t.wall.s = 4096 ∧ t.wall.minE = none ∧ t.wall.scales = none
          ∧ t.wall.limiting = none ∧ t.wall.limitingSlots = none ∧ t.wall.contributing = 0)
      ∧ (∀ j, Contributes (t.tile j) → ∃ m, t.wall.minE = some m
          ∧ (∀ c : Chan, (∃ i e, Contributes (t.tile i) ∧ (t.tile i).eng.e = some e ∧ e.get c = m.get c)
              ∧ ∀ i e, Contributes (t.tile i) → (t.tile i).eng.e = some e → m.get c ≤ e.get c)
          ∧ t.wall.s = min 4096 (min (m.r * 4096 / s.showRec.want.r)
              (min (m.g * 4096 / s.showRec.want.g) (m.b * 4096 / s.showRec.want.b))))

/-- The applied gains at a recomputation, row by row (R113), with the step of R114: to the manual gains in FIXED, to the target gains
at a first set, held under HOLD, else each channel stands within the tolerance or takes one step that does not pass its target. -/
def Obligations.AppliedGainsFollowTheTable : Prop :=
  ∀ (k : Slot) (s : State), s.chain.activity = .adopt k → s.sweep.state ≠ .running →
    ∃ t, exec .adoptNoReply s = .next t ∧ ∀ i,
      ((s.tile i).chain.state = .active → (s.tile i).mode = some .fixed →
        (t.tile i).slew = { (s.tile i).slew with
          ga := some (s.tile i).slew.manual, firstSet := false, status := some ⟨.manual, .manual, .manual⟩ })
      ∧ ((s.tile i).chain.state = .active → ((s.tile i).mode = some .model ∨ (s.tile i).mode = some .sensed) →
        ∃ gt, (t.tile i).eng.gt = some gt
          ∧ ((s.tile i).slew.firstSet = true → (t.tile i).slew = { (s.tile i).slew with
              ga := some gt, firstSet := false, status := some ⟨.first, .first, .first⟩ })
          ∧ ((s.tile i).slew.firstSet = false →
              ((s.tile i).prot.hotAct.kind = .hold ∨ (s.tile i).prot.sensorAct.kind = .hold) →
              (t.tile i).slew = { (s.tile i).slew with status := some ⟨.held, .held, .held⟩ })
          ∧ (∀ ga, (s.tile i).slew.firstSet = false → (s.tile i).prot.hotAct.kind ≠ .hold →
              (s.tile i).prot.sensorAct.kind ≠ .hold → (s.tile i).slew.ga = some ga →
              ∃ g st, (t.tile i).slew = { (s.tile i).slew with ga := some g, status := some st } ∧ ∀ c : Chan,
                (gt.get c ≤ ga.get c + s.slewSet.tolerance → ga.get c ≤ gt.get c + s.slewSet.tolerance →
                  g.get c = ga.get c ∧ st.get c = .settled)
                ∧ (ga.get c + s.slewSet.tolerance < gt.get c →
                  g.get c = min (gt.get c) (ga.get c + s.slewSet.stepUp) ∧ st.get c = .up)
                ∧ (gt.get c + s.slewSet.tolerance < ga.get c →
                  g.get c = max (gt.get c) (ga.get c - s.slewSet.stepDown) ∧ st.get c = .down)))
      ∧ ((s.tile i).chain.state = .unprofiled → (t.tile i).slew = { (s.tile i).slew with
          ga := some ⟨4096, 4096, 4096⟩, status := some ⟨.uncorrected, .uncorrected, .uncorrected⟩ })
      ∧ ((s.tile i).chain.state = .joining ∨ (s.tile i).chain.state = .lost → (t.tile i).slew = (s.tile i).slew)

/-- The coefficients at a recomputation (R82, R95, R96, R97, R150): from the applied gains of an ACTIVE slot and from 4096 of an
UNPROFILED one, by three divisions, with the M held, P, or 0 while OVERHEAT is active, and the Sb that the evaluation ends with;
absent for JOINING, standing for LOST. The estimate is the sum of the power terms. -/
def Obligations.CoefficientsAreFormed : Prop :=
  ∀ (k : Slot) (s : State), s.chain.activity = .adopt k → s.sweep.state ≠ .running →
    ∃ t, exec .adoptNoReply s = .next t
      ∧ (∀ i g, ((s.tile i).chain.state = .active ∧ (t.tile i).slew.ga = some g)
            ∨ ((s.tile i).chain.state = .unprofiled ∧ g = ⟨4096, 4096, 4096⟩) →
          (t.tile i).chain = { (s.tile i).chain with
            pending := some (formed s.showRec.m (usedFactor (s.tile i)) t.budget.sb g) }
          ∧ (t.tile i).eng.formedBy = some .recompute ∧ (t.tile i).eng.gainsUsed = some g
          ∧ (t.tile i).eng.mUsed = some s.showRec.m ∧ (t.tile i).eng.pUsed = some (usedFactor (s.tile i))
          ∧ (t.tile i).eng.sbUsed = some t.budget.sb
          ∧ (t.tile i).eng.powerTerm = some ((s.tile i).held.groups.power * 10 * (s.tile i).eng.load.getD 0
              * ((formed s.showRec.m (usedFactor (s.tile i)) 4096 g).r
                + (formed s.showRec.m (usedFactor (s.tile i)) 4096 g).g
                + (formed s.showRec.m (usedFactor (s.tile i)) 4096 g).b) / 3132675))
      ∧ (∀ i, (s.tile i).chain.state = .joining →
          (t.tile i).chain = { (s.tile i).chain with pending := none } ∧ (t.tile i).eng.powerTerm = none)
      ∧ (∀ i, (s.tile i).chain.state = .lost →
          (t.tile i).chain = (s.tile i).chain ∧ (t.tile i).eng.contributing = false ∧ (t.tile i).eng.powerTerm = none)
      ∧ t.budget.estimate = (slots.map fun i => ((t.tile i).eng.powerTerm).getD 0).sum

/-- The budget evaluation of a recomputation (R151 to R156): the candidate, and what each recovery mode makes of state, Sb, hold
counter and flags; in state OFF none is made. -/
def Obligations.BudgetIsEvaluatedByItsMode : Prop :=
  ∀ (k : Slot) (s : State), s.chain.activity = .adopt k → s.sweep.state ≠ .running →
    ∃ t cand, exec .adoptNoReply s = .next t
      ∧ t.budget.set = s.budget.set
      ∧ (s.budget.state = .off → t.budget = { s.budget with estimate := t.budget.estimate })
      ∧ (t.budget.estimate ≤ s.budget.set.budget * 10 → cand = 4096)
      ∧ (s.budget.set.budget * 10 < t.budget.estimate →
          cand = max 1024 (min 4096 (s.budget.set.budget * 10 * 4096 / t.budget.estimate)))
      ∧ (s.budget.state ≠ .off → t.budget.candidate = cand ∧ (t.budget.active = true ↔ t.budget.state = .tripped))
      ∧ ((s.budget.state = .clear ∨ s.budget.state = .tripped
              ∧ (s.budget.set.mode = .next ∨ s.budget.set.mode = .report ∨ s.budget.set.mode = .count ∧ s.budget.hold ≤ 1)) →
          (t.budget.estimate ≤ s.budget.set.budget * 10 → t.budget.state = .clear ∧ t.budget.sb = 4096)
          ∧ (s.budget.set.budget * 10 < t.budget.estimate → t.budget.state = .tripped
            ∧ t.budget.sb = (if s.budget.set.mode = .report then 4096 else cand)
            ∧ (s.budget.set.mode = .count → t.budget.hold = s.budget.set.count)
            ∧ (s.budget.state = .clear ∨ s.budget.set.mode = .count → t.budget.latched = true
                ∧ t.budget.trips = (s.budget.trips + 1) % 65536 ∧ ∀ q, (t.port q).pending.cond = true)))
      ∧ (s.budget.state = .tripped → s.budget.set.mode = .below →
          (t.budget.estimate ≤ s.budget.set.budget * 10 * (100 - s.budget.set.hysteresis) / 100 →
            t.budget.state = .clear ∧ t.budget.sb = 4096)
          ∧ (s.budget.set.budget * 10 * (100 - s.budget.set.hysteresis) / 100 < t.budget.estimate →
            t.budget.state = .tripped ∧ t.budget.sb = min s.budget.sb cand))
      ∧ (s.budget.state = .tripped → s.budget.set.mode = .count → 1 < s.budget.hold →
          t.budget.state = .tripped ∧ t.budget.sb = s.budget.sb ∧ t.budget.hold = s.budget.hold - 1
          ∧ t.budget.trips = s.budget.trips)

/-- One evaluation of HOT or SENSOR, cell by cell of R131's table, and the evaluations that a POLL reply makes: OVERHEAT on its valid raw
reading (R66, R126); SENSOR on whether a source is selected, primary before fallback, a neighbour lending only its own valid reading
while it is ACTIVE (R58, R67 to R70, R127); HOT on each new Teff (R74, R125), which is the first sample, or the mean of a full block of
2^w samples of one source (R71, R72). With no source Teff is held. That no slot is its own neighbour rests on the map's invariants. -/
def Obligations.ConditionTable : Prop :=
  (∀ (c : ClassSettings) (now : Bool) (x y : Cond) (a b : Act), evalClass c now x a = (y, b) →
    (x.cond = false → now = true → c.mode ≠ .off → y = ⟨true, true, true⟩)
    ∧ (x.cond = false → now = true → c.mode = .off → y = { x with cond := true } ∧ b = a)
    ∧ (now = true → c.mode = .latched → a.kind = .none →
        b = ⟨c.action.inForce, if c.action = .dim then some c.dim else none, none⟩)
    ∧ (now = true → c.mode = .retry → a.kind = .none →
        b = ⟨c.action.inForce, if c.action = .dim then some c.dim else none, some (c.retry * 1000)⟩)
    ∧ (now = true → a.kind ≠ .none → b = a) ∧ (c.mode = .report → b = a)
    ∧ (x.cond = true → now = true → y = x ∧ (c.mode = .off → b = a))
    ∧ (x.cond = true → now = false → y = { x with cond := false, active := false } ∧ b = a)
    ∧ (x.cond = false → now = false → y = x ∧ b = a))
    ∧ ∀ (i : Slot) (temp : Option Int) (fault : Bool) (hours load : Nat) (echo : RGB Nat) (s : State),
      s.chain.activity = .poll i → pollReplyOk temp hours load echo = true → s.inReset = false → MapInv s → InverseInv s →
      ∃ t, exec (.pollReply temp fault hours load echo) s = .next t
        ∧ OverheatJudged s.tempSet (validOwn temp fault) (s.tile i).prot (t.tile i).prot
        ∧ (t.tile i).prot.p = protFactor (t.tile i).prot
        ∧ (∀ x role v n, Selected s i (validOwn temp fault) x role v n → ∃ sum count,
            (t.tile i).temp.source = .source x ∧ (t.tile i).temp.role = some role ∧ (t.tile i).temp.lending = n
            ∧ (t.tile i).temp.lastSample = some v
            ∧ evalClass s.protSet.sensor false (s.tile i).prot.sensor (s.tile i).prot.sensorAct
                = ((t.tile i).prot.sensor, (t.tile i).prot.sensorAct)
            ∧ ((s.tile i).temp.source = .absent ∨ (s.tile i).temp.source = .source x →
                sum = (s.tile i).temp.sum ∧ count = (s.tile i).temp.count)
            ∧ ((s.tile i).temp.source ≠ .absent → (s.tile i).temp.source ≠ .source x → sum = 0 ∧ count = 0)
            ∧ ((s.tile i).temp.teff = none → (t.tile i).temp.teff = some v ∧ (t.tile i).temp.sum = sum
                ∧ (t.tile i).temp.count = count
                ∧ HotJudged s.protSet.hot s.tempSet v (s.tile i).prot (t.tile i).prot)
            ∧ ((s.tile i).temp.teff ≠ none → count + 1 = 2 ^ s.tempSet.w → ∃ e,
                (s.tempSet.w = 0 → e = v) ∧ (s.tempSet.w ≠ 0 → e = (sum + v + 2 ^ (s.tempSet.w - 1)) / 2 ^ s.tempSet.w)
                ∧ (t.tile i).temp.teff = some e ∧ (t.tile i).temp.sum = 0 ∧ (t.tile i).temp.count = 0
                ∧ HotJudged s.protSet.hot s.tempSet e (s.tile i).prot (t.tile i).prot)
            ∧ ((s.tile i).temp.teff ≠ none → count + 1 ≠ 2 ^ s.tempSet.w →
                (t.tile i).temp.teff = (s.tile i).temp.teff ∧ (t.tile i).temp.sum = sum + v
                ∧ (t.tile i).temp.count = count + 1
                ∧ (t.tile i).prot.hot = (s.tile i).prot.hot ∧ (t.tile i).prot.hotAct = (s.tile i).prot.hotAct))
        ∧ ((∀ x role v n, ¬Selected s i (validOwn temp fault) x role v n) →
            (t.tile i).temp.source = .none ∧ (t.tile i).temp.role = none ∧ (t.tile i).temp.lending = none
            ∧ (t.tile i).temp.lastSample = (s.tile i).temp.lastSample ∧ (t.tile i).temp.teff = (s.tile i).temp.teff
            ∧ ((s.tile i).temp.source = .absent ∨ (s.tile i).temp.source = .none →
                (t.tile i).temp.sum = (s.tile i).temp.sum ∧ (t.tile i).temp.count = (s.tile i).temp.count)
            ∧ ((s.tile i).temp.source ≠ .absent → (s.tile i).temp.source ≠ .none →
                (t.tile i).temp.sum = 0 ∧ (t.tile i).temp.count = 0)
            ∧ evalClass s.protSet.sensor true (s.tile i).prot.sensor (s.tile i).prot.sensorAct
                = ((t.tile i).prot.sensor, (t.tile i).prot.sensorAct)
            ∧ (t.tile i).prot.hot = (s.tile i).prot.hot ∧ (t.tile i).prot.hotAct = (s.tile i).prot.hotAct)

/-! ## Invariants -/

/-- The part after reset meets every invariant stated below. -/
def Obligations.ResetMeetsTheInvariants : Prop :=
  CoefInv State.reset ∧ GainInv State.reset ∧ FlagsInv State.reset ∧ FactorInv State.reset ∧ BudgetInv State.reset
    ∧ SettingsInv State.reset ∧ MapInv State.reset ∧ InverseInv State.reset ∧ JobsInv State.reset

/-- Every step keeps every coefficient in 0..4095 and every applied, target and manual gain in 0..4096 (R94, R96, R107, R114). -/
def Obligations.StepKeepsGainsAndCoefficients : Prop :=
  ∀ s t : State, CoefInv s → GainInv s → step s = .next t → CoefInv t ∧ GainInv t

/-- Every step keeps a latched flag beside every active flag (R124) and every P at what the actions in force make it (R134). -/
def Obligations.StepKeepsFlagsAndFactors : Prop :=
  ∀ s t : State, FlagsInv s → FactorInv s → step s = .next t → FlagsInv t ∧ FactorInv t

/-- Every step keeps every setting in its range (R6, R76, R120, R136, R148, R184) and the budget unit's flags and Sb in line with its
state (R147, R152). -/
def Obligations.StepKeepsSettingsAndBudget : Prop :=
  ∀ s t : State, SettingsInv s → BudgetInv s → step s = .next t → SettingsInv t ∧ BudgetInv t

/-- Every step keeps each slot number at one map position at most (R54), and the inverse in line with the entries while RESETn is high
(R51). -/
def Obligations.StepKeepsTheMap : Prop :=
  ∀ s t : State, MapInv s → InverseInv s → step s = .next t → MapInv t ∧ InverseInv t

/-- Every step keeps every request in progress with the block that runs it: one token, one standby, one write, each with its port's
slot BUSY (R177, R193, R199). -/
def Obligations.StepKeepsTheJobs : Prop := ∀ s t : State, JobsInv s → step s = .next t → JobsInv t

/-- A notice class that is pending at a port stays pending through every step but a STATUS on that port and a hard reset (R200). -/
def Obligations.OnlyStatusEmptiesThePendingSet : Prop :=
  ∀ (s t : State) (p : Port), step s = .next t → (∀ rest, s.pending ≠ .status p :: rest) →
    (∀ cause cut rest, s.pending ≠ .hardReset cause cut :: rest) →
    (∀ rest, s.pending = .resetnRelease :: rest → s.inReset = false) →
    (s.port p).pending.union (t.port p).pending = (t.port p).pending

/-- Through every step but a hard reset, the store's areas and the inverse change at a store-write completion alone (R26, R50, R51),
and the show record, the show key and each block's settings change at their own requests alone (R76, R120, R136, R148, R184, R186,
R187). -/
def Obligations.StandingRecordsChangeByTheirOwnRequests : Prop :=
  ∀ s t : State, step s = .next t → (∀ cause cut rest, s.pending ≠ .hardReset cause cut :: rest) →
    ((∀ rest, s.pending ≠ .storeWriteComplete :: rest) → (∀ rest, s.pending ≠ .resetnRelease :: rest) →
      t.store.profiles = s.store.profiles ∧ t.store.map = s.store.map ∧ t.inverse = s.inverse
        ∧ t.store.profileLosses = s.store.profileLosses ∧ t.store.mapLosses = s.store.mapLosses
        ∧ t.store.lost = s.store.lost)
    ∧ ((∀ p b rest, s.pending ≠ .setShow p b :: rest) → t.showRec = s.showRec)
    ∧ ((∀ p b rest, s.pending ≠ .freeze p b :: rest) → (∀ p b rest, s.pending ≠ .thaw p b :: rest) →
        t.auth.key = s.auth.key)
    ∧ ((∀ p b rest, s.pending ≠ .setTemp p b :: rest) → t.tempSet = s.tempSet)
    ∧ ((∀ p b rest, s.pending ≠ .setSlew p b :: rest) → t.slewSet = s.slewSet)
    ∧ ((∀ p b rest, s.pending ≠ .setProtect p b :: rest) → t.protSet = s.protSet
        ∧ t.chain.missLimit = s.chain.missLimit ∧ t.chain.roundInterval = s.chain.roundInterval)
    ∧ ((∀ p b rest, s.pending ≠ .setBudget p b :: rest) → t.budget.set = s.budget.set)
    ∧ ((∀ p b rest, s.pending ≠ .setNotice p b :: rest) → (∀ rest, s.pending ≠ .resetnRelease :: rest) →
        ∀ q, (t.port q).mask = (s.port q).mask)
end

