-- ==== Sys2Proof/Laws/State.lean ====
section
/-! SUPPORT. One lemma per field per update of the state and of a tile, so that no proof unfolds a record update. -/

namespace Sys2Proof.Machine

variable (s : State)

/-! `State.setInReset` -/

@[simp] theorem State.setInReset_inReset (x : Bool) : (s.setInReset x).inReset = x := rfl
@[simp] theorem State.setInReset_ports (x : Bool) : (s.setInReset x).ports = s.ports := rfl
@[simp] theorem State.setInReset_token (x : Bool) : (s.setInReset x).token = s.token := rfl
@[simp] theorem State.setInReset_auth (x : Bool) : (s.setInReset x).auth = s.auth := rfl
@[simp] theorem State.setInReset_showRec (x : Bool) : (s.setInReset x).showRec = s.showRec := rfl
@[simp] theorem State.setInReset_chain (x : Bool) : (s.setInReset x).chain = s.chain := rfl
@[simp] theorem State.setInReset_tiles (x : Bool) : (s.setInReset x).tiles = s.tiles := rfl
@[simp] theorem State.setInReset_store (x : Bool) : (s.setInReset x).store = s.store := rfl
@[simp] theorem State.setInReset_inverse (x : Bool) : (s.setInReset x).inverse = s.inverse := rfl
@[simp] theorem State.setInReset_tempSet (x : Bool) : (s.setInReset x).tempSet = s.tempSet := rfl
@[simp] theorem State.setInReset_wall (x : Bool) : (s.setInReset x).wall = s.wall := rfl
@[simp] theorem State.setInReset_slewSet (x : Bool) : (s.setInReset x).slewSet = s.slewSet := rfl
@[simp] theorem State.setInReset_protSet (x : Bool) : (s.setInReset x).protSet = s.protSet := rfl
@[simp] theorem State.setInReset_budget (x : Bool) : (s.setInReset x).budget = s.budget := rfl
@[simp] theorem State.setInReset_sweep (x : Bool) : (s.setInReset x).sweep = s.sweep := rfl
@[simp] theorem State.setInReset_pending (x : Bool) : (s.setInReset x).pending = s.pending := rfl

/-! `State.setPorts` -/

@[simp] theorem State.setPorts_inReset (x : Ports) : (s.setPorts x).inReset = s.inReset := rfl
@[simp] theorem State.setPorts_ports (x : Ports) : (s.setPorts x).ports = x := rfl
@[simp] theorem State.setPorts_token (x : Ports) : (s.setPorts x).token = s.token := rfl
@[simp] theorem State.setPorts_auth (x : Ports) : (s.setPorts x).auth = s.auth := rfl
@[simp] theorem State.setPorts_showRec (x : Ports) : (s.setPorts x).showRec = s.showRec := rfl
@[simp] theorem State.setPorts_chain (x : Ports) : (s.setPorts x).chain = s.chain := rfl
@[simp] theorem State.setPorts_tiles (x : Ports) : (s.setPorts x).tiles = s.tiles := rfl
@[simp] theorem State.setPorts_store (x : Ports) : (s.setPorts x).store = s.store := rfl
@[simp] theorem State.setPorts_inverse (x : Ports) : (s.setPorts x).inverse = s.inverse := rfl
@[simp] theorem State.setPorts_tempSet (x : Ports) : (s.setPorts x).tempSet = s.tempSet := rfl
@[simp] theorem State.setPorts_wall (x : Ports) : (s.setPorts x).wall = s.wall := rfl
@[simp] theorem State.setPorts_slewSet (x : Ports) : (s.setPorts x).slewSet = s.slewSet := rfl
@[simp] theorem State.setPorts_protSet (x : Ports) : (s.setPorts x).protSet = s.protSet := rfl
@[simp] theorem State.setPorts_budget (x : Ports) : (s.setPorts x).budget = s.budget := rfl
@[simp] theorem State.setPorts_sweep (x : Ports) : (s.setPorts x).sweep = s.sweep := rfl
@[simp] theorem State.setPorts_pending (x : Ports) : (s.setPorts x).pending = s.pending := rfl

/-! `State.setToken` -/

@[simp] theorem State.setToken_inReset (x : Token) : (s.setToken x).inReset = s.inReset := rfl
@[simp] theorem State.setToken_ports (x : Token) : (s.setToken x).ports = s.ports := rfl
@[simp] theorem State.setToken_token (x : Token) : (s.setToken x).token = x := rfl
@[simp] theorem State.setToken_auth (x : Token) : (s.setToken x).auth = s.auth := rfl
@[simp] theorem State.setToken_showRec (x : Token) : (s.setToken x).showRec = s.showRec := rfl
@[simp] theorem State.setToken_chain (x : Token) : (s.setToken x).chain = s.chain := rfl
@[simp] theorem State.setToken_tiles (x : Token) : (s.setToken x).tiles = s.tiles := rfl
@[simp] theorem State.setToken_store (x : Token) : (s.setToken x).store = s.store := rfl
@[simp] theorem State.setToken_inverse (x : Token) : (s.setToken x).inverse = s.inverse := rfl
@[simp] theorem State.setToken_tempSet (x : Token) : (s.setToken x).tempSet = s.tempSet := rfl
@[simp] theorem State.setToken_wall (x : Token) : (s.setToken x).wall = s.wall := rfl
@[simp] theorem State.setToken_slewSet (x : Token) : (s.setToken x).slewSet = s.slewSet := rfl
@[simp] theorem State.setToken_protSet (x : Token) : (s.setToken x).protSet = s.protSet := rfl
@[simp] theorem State.setToken_budget (x : Token) : (s.setToken x).budget = s.budget := rfl
@[simp] theorem State.setToken_sweep (x : Token) : (s.setToken x).sweep = s.sweep := rfl
@[simp] theorem State.setToken_pending (x : Token) : (s.setToken x).pending = s.pending := rfl

/-! `State.setAuth` -/

@[simp] theorem State.setAuth_inReset (x : Authority) : (s.setAuth x).inReset = s.inReset := rfl
@[simp] theorem State.setAuth_ports (x : Authority) : (s.setAuth x).ports = s.ports := rfl
@[simp] theorem State.setAuth_token (x : Authority) : (s.setAuth x).token = s.token := rfl
@[simp] theorem State.setAuth_auth (x : Authority) : (s.setAuth x).auth = x := rfl
@[simp] theorem State.setAuth_showRec (x : Authority) : (s.setAuth x).showRec = s.showRec := rfl
@[simp] theorem State.setAuth_chain (x : Authority) : (s.setAuth x).chain = s.chain := rfl
@[simp] theorem State.setAuth_tiles (x : Authority) : (s.setAuth x).tiles = s.tiles := rfl
@[simp] theorem State.setAuth_store (x : Authority) : (s.setAuth x).store = s.store := rfl
@[simp] theorem State.setAuth_inverse (x : Authority) : (s.setAuth x).inverse = s.inverse := rfl
@[simp] theorem State.setAuth_tempSet (x : Authority) : (s.setAuth x).tempSet = s.tempSet := rfl
@[simp] theorem State.setAuth_wall (x : Authority) : (s.setAuth x).wall = s.wall := rfl
@[simp] theorem State.setAuth_slewSet (x : Authority) : (s.setAuth x).slewSet = s.slewSet := rfl
@[simp] theorem State.setAuth_protSet (x : Authority) : (s.setAuth x).protSet = s.protSet := rfl
@[simp] theorem State.setAuth_budget (x : Authority) : (s.setAuth x).budget = s.budget := rfl
@[simp] theorem State.setAuth_sweep (x : Authority) : (s.setAuth x).sweep = s.sweep := rfl
@[simp] theorem State.setAuth_pending (x : Authority) : (s.setAuth x).pending = s.pending := rfl

/-! `State.setShowRec` -/

@[simp] theorem State.setShowRec_inReset (x : ShowRec) : (s.setShowRec x).inReset = s.inReset := rfl
@[simp] theorem State.setShowRec_ports (x : ShowRec) : (s.setShowRec x).ports = s.ports := rfl
@[simp] theorem State.setShowRec_token (x : ShowRec) : (s.setShowRec x).token = s.token := rfl
@[simp] theorem State.setShowRec_auth (x : ShowRec) : (s.setShowRec x).auth = s.auth := rfl
@[simp] theorem State.setShowRec_showRec (x : ShowRec) : (s.setShowRec x).showRec = x := rfl
@[simp] theorem State.setShowRec_chain (x : ShowRec) : (s.setShowRec x).chain = s.chain := rfl
@[simp] theorem State.setShowRec_tiles (x : ShowRec) : (s.setShowRec x).tiles = s.tiles := rfl
@[simp] theorem State.setShowRec_store (x : ShowRec) : (s.setShowRec x).store = s.store := rfl
@[simp] theorem State.setShowRec_inverse (x : ShowRec) : (s.setShowRec x).inverse = s.inverse := rfl
@[simp] theorem State.setShowRec_tempSet (x : ShowRec) : (s.setShowRec x).tempSet = s.tempSet := rfl
@[simp] theorem State.setShowRec_wall (x : ShowRec) : (s.setShowRec x).wall = s.wall := rfl
@[simp] theorem State.setShowRec_slewSet (x : ShowRec) : (s.setShowRec x).slewSet = s.slewSet := rfl
@[simp] theorem State.setShowRec_protSet (x : ShowRec) : (s.setShowRec x).protSet = s.protSet := rfl
@[simp] theorem State.setShowRec_budget (x : ShowRec) : (s.setShowRec x).budget = s.budget := rfl
@[simp] theorem State.setShowRec_sweep (x : ShowRec) : (s.setShowRec x).sweep = s.sweep := rfl
@[simp] theorem State.setShowRec_pending (x : ShowRec) : (s.setShowRec x).pending = s.pending := rfl

/-! `State.setChain` -/

@[simp] theorem State.setChain_inReset (x : ChainCtl) : (s.setChain x).inReset = s.inReset := rfl
@[simp] theorem State.setChain_ports (x : ChainCtl) : (s.setChain x).ports = s.ports := rfl
@[simp] theorem State.setChain_token (x : ChainCtl) : (s.setChain x).token = s.token := rfl
@[simp] theorem State.setChain_auth (x : ChainCtl) : (s.setChain x).auth = s.auth := rfl
@[simp] theorem State.setChain_showRec (x : ChainCtl) : (s.setChain x).showRec = s.showRec := rfl
@[simp] theorem State.setChain_chain (x : ChainCtl) : (s.setChain x).chain = x := rfl
@[simp] theorem State.setChain_tiles (x : ChainCtl) : (s.setChain x).tiles = s.tiles := rfl
@[simp] theorem State.setChain_store (x : ChainCtl) : (s.setChain x).store = s.store := rfl
@[simp] theorem State.setChain_inverse (x : ChainCtl) : (s.setChain x).inverse = s.inverse := rfl
@[simp] theorem State.setChain_tempSet (x : ChainCtl) : (s.setChain x).tempSet = s.tempSet := rfl
@[simp] theorem State.setChain_wall (x : ChainCtl) : (s.setChain x).wall = s.wall := rfl
@[simp] theorem State.setChain_slewSet (x : ChainCtl) : (s.setChain x).slewSet = s.slewSet := rfl
@[simp] theorem State.setChain_protSet (x : ChainCtl) : (s.setChain x).protSet = s.protSet := rfl
@[simp] theorem State.setChain_budget (x : ChainCtl) : (s.setChain x).budget = s.budget := rfl
@[simp] theorem State.setChain_sweep (x : ChainCtl) : (s.setChain x).sweep = s.sweep := rfl
@[simp] theorem State.setChain_pending (x : ChainCtl) : (s.setChain x).pending = s.pending := rfl

/-! `State.setTiles` -/

@[simp] theorem State.setTiles_inReset (x : Table Tile 64) : (s.setTiles x).inReset = s.inReset := rfl
@[simp] theorem State.setTiles_ports (x : Table Tile 64) : (s.setTiles x).ports = s.ports := rfl
@[simp] theorem State.setTiles_token (x : Table Tile 64) : (s.setTiles x).token = s.token := rfl
@[simp] theorem State.setTiles_auth (x : Table Tile 64) : (s.setTiles x).auth = s.auth := rfl
@[simp] theorem State.setTiles_showRec (x : Table Tile 64) : (s.setTiles x).showRec = s.showRec := rfl
@[simp] theorem State.setTiles_chain (x : Table Tile 64) : (s.setTiles x).chain = s.chain := rfl
@[simp] theorem State.setTiles_tiles (x : Table Tile 64) : (s.setTiles x).tiles = x := rfl
@[simp] theorem State.setTiles_store (x : Table Tile 64) : (s.setTiles x).store = s.store := rfl
@[simp] theorem State.setTiles_inverse (x : Table Tile 64) : (s.setTiles x).inverse = s.inverse := rfl
@[simp] theorem State.setTiles_tempSet (x : Table Tile 64) : (s.setTiles x).tempSet = s.tempSet := rfl
@[simp] theorem State.setTiles_wall (x : Table Tile 64) : (s.setTiles x).wall = s.wall := rfl
@[simp] theorem State.setTiles_slewSet (x : Table Tile 64) : (s.setTiles x).slewSet = s.slewSet := rfl
@[simp] theorem State.setTiles_protSet (x : Table Tile 64) : (s.setTiles x).protSet = s.protSet := rfl
@[simp] theorem State.setTiles_budget (x : Table Tile 64) : (s.setTiles x).budget = s.budget := rfl
@[simp] theorem State.setTiles_sweep (x : Table Tile 64) : (s.setTiles x).sweep = s.sweep := rfl
@[simp] theorem State.setTiles_pending (x : Table Tile 64) : (s.setTiles x).pending = s.pending := rfl

/-! `State.setStore` -/

@[simp] theorem State.setStore_inReset (x : Store) : (s.setStore x).inReset = s.inReset := rfl
@[simp] theorem State.setStore_ports (x : Store) : (s.setStore x).ports = s.ports := rfl
@[simp] theorem State.setStore_token (x : Store) : (s.setStore x).token = s.token := rfl
@[simp] theorem State.setStore_auth (x : Store) : (s.setStore x).auth = s.auth := rfl
@[simp] theorem State.setStore_showRec (x : Store) : (s.setStore x).showRec = s.showRec := rfl
@[simp] theorem State.setStore_chain (x : Store) : (s.setStore x).chain = s.chain := rfl
@[simp] theorem State.setStore_tiles (x : Store) : (s.setStore x).tiles = s.tiles := rfl
@[simp] theorem State.setStore_store (x : Store) : (s.setStore x).store = x := rfl
@[simp] theorem State.setStore_inverse (x : Store) : (s.setStore x).inverse = s.inverse := rfl
@[simp] theorem State.setStore_tempSet (x : Store) : (s.setStore x).tempSet = s.tempSet := rfl
@[simp] theorem State.setStore_wall (x : Store) : (s.setStore x).wall = s.wall := rfl
@[simp] theorem State.setStore_slewSet (x : Store) : (s.setStore x).slewSet = s.slewSet := rfl
@[simp] theorem State.setStore_protSet (x : Store) : (s.setStore x).protSet = s.protSet := rfl
@[simp] theorem State.setStore_budget (x : Store) : (s.setStore x).budget = s.budget := rfl
@[simp] theorem State.setStore_sweep (x : Store) : (s.setStore x).sweep = s.sweep := rfl
@[simp] theorem State.setStore_pending (x : Store) : (s.setStore x).pending = s.pending := rfl

/-! `State.setInverse` -/

@[simp] theorem State.setInverse_inReset (x : Table (Option Pos) 64) : (s.setInverse x).inReset = s.inReset := rfl
@[simp] theorem State.setInverse_ports (x : Table (Option Pos) 64) : (s.setInverse x).ports = s.ports := rfl
@[simp] theorem State.setInverse_token (x : Table (Option Pos) 64) : (s.setInverse x).token = s.token := rfl
@[simp] theorem State.setInverse_auth (x : Table (Option Pos) 64) : (s.setInverse x).auth = s.auth := rfl
@[simp] theorem State.setInverse_showRec (x : Table (Option Pos) 64) : (s.setInverse x).showRec = s.showRec := rfl
@[simp] theorem State.setInverse_chain (x : Table (Option Pos) 64) : (s.setInverse x).chain = s.chain := rfl
@[simp] theorem State.setInverse_tiles (x : Table (Option Pos) 64) : (s.setInverse x).tiles = s.tiles := rfl
@[simp] theorem State.setInverse_store (x : Table (Option Pos) 64) : (s.setInverse x).store = s.store := rfl
@[simp] theorem State.setInverse_inverse (x : Table (Option Pos) 64) : (s.setInverse x).inverse = x := rfl
@[simp] theorem State.setInverse_tempSet (x : Table (Option Pos) 64) : (s.setInverse x).tempSet = s.tempSet := rfl
@[simp] theorem State.setInverse_wall (x : Table (Option Pos) 64) : (s.setInverse x).wall = s.wall := rfl
@[simp] theorem State.setInverse_slewSet (x : Table (Option Pos) 64) : (s.setInverse x).slewSet = s.slewSet := rfl
@[simp] theorem State.setInverse_protSet (x : Table (Option Pos) 64) : (s.setInverse x).protSet = s.protSet := rfl
@[simp] theorem State.setInverse_budget (x : Table (Option Pos) 64) : (s.setInverse x).budget = s.budget := rfl
@[simp] theorem State.setInverse_sweep (x : Table (Option Pos) 64) : (s.setInverse x).sweep = s.sweep := rfl
@[simp] theorem State.setInverse_pending (x : Table (Option Pos) 64) : (s.setInverse x).pending = s.pending := rfl

/-! `State.setTempSet` -/

@[simp] theorem State.setTempSet_inReset (x : TempSettings) : (s.setTempSet x).inReset = s.inReset := rfl
@[simp] theorem State.setTempSet_ports (x : TempSettings) : (s.setTempSet x).ports = s.ports := rfl
@[simp] theorem State.setTempSet_token (x : TempSettings) : (s.setTempSet x).token = s.token := rfl
@[simp] theorem State.setTempSet_auth (x : TempSettings) : (s.setTempSet x).auth = s.auth := rfl
@[simp] theorem State.setTempSet_showRec (x : TempSettings) : (s.setTempSet x).showRec = s.showRec := rfl
@[simp] theorem State.setTempSet_chain (x : TempSettings) : (s.setTempSet x).chain = s.chain := rfl
@[simp] theorem State.setTempSet_tiles (x : TempSettings) : (s.setTempSet x).tiles = s.tiles := rfl
@[simp] theorem State.setTempSet_store (x : TempSettings) : (s.setTempSet x).store = s.store := rfl
@[simp] theorem State.setTempSet_inverse (x : TempSettings) : (s.setTempSet x).inverse = s.inverse := rfl
@[simp] theorem State.setTempSet_tempSet (x : TempSettings) : (s.setTempSet x).tempSet = x := rfl
@[simp] theorem State.setTempSet_wall (x : TempSettings) : (s.setTempSet x).wall = s.wall := rfl
@[simp] theorem State.setTempSet_slewSet (x : TempSettings) : (s.setTempSet x).slewSet = s.slewSet := rfl
@[simp] theorem State.setTempSet_protSet (x : TempSettings) : (s.setTempSet x).protSet = s.protSet := rfl
@[simp] theorem State.setTempSet_budget (x : TempSettings) : (s.setTempSet x).budget = s.budget := rfl
@[simp] theorem State.setTempSet_sweep (x : TempSettings) : (s.setTempSet x).sweep = s.sweep := rfl
@[simp] theorem State.setTempSet_pending (x : TempSettings) : (s.setTempSet x).pending = s.pending := rfl

/-! `State.setWall` -/

@[simp] theorem State.setWall_inReset (x : WallRec) : (s.setWall x).inReset = s.inReset := rfl
@[simp] theorem State.setWall_ports (x : WallRec) : (s.setWall x).ports = s.ports := rfl
@[simp] theorem State.setWall_token (x : WallRec) : (s.setWall x).token = s.token := rfl
@[simp] theorem State.setWall_auth (x : WallRec) : (s.setWall x).auth = s.auth := rfl
@[simp] theorem State.setWall_showRec (x : WallRec) : (s.setWall x).showRec = s.showRec := rfl
@[simp] theorem State.setWall_chain (x : WallRec) : (s.setWall x).chain = s.chain := rfl
@[simp] theorem State.setWall_tiles (x : WallRec) : (s.setWall x).tiles = s.tiles := rfl
@[simp] theorem State.setWall_store (x : WallRec) : (s.setWall x).store = s.store := rfl
@[simp] theorem State.setWall_inverse (x : WallRec) : (s.setWall x).inverse = s.inverse := rfl
@[simp] theorem State.setWall_tempSet (x : WallRec) : (s.setWall x).tempSet = s.tempSet := rfl
@[simp] theorem State.setWall_wall (x : WallRec) : (s.setWall x).wall = x := rfl
@[simp] theorem State.setWall_slewSet (x : WallRec) : (s.setWall x).slewSet = s.slewSet := rfl
@[simp] theorem State.setWall_protSet (x : WallRec) : (s.setWall x).protSet = s.protSet := rfl
@[simp] theorem State.setWall_budget (x : WallRec) : (s.setWall x).budget = s.budget := rfl
@[simp] theorem State.setWall_sweep (x : WallRec) : (s.setWall x).sweep = s.sweep := rfl
@[simp] theorem State.setWall_pending (x : WallRec) : (s.setWall x).pending = s.pending := rfl

/-! `State.setSlewSet` -/

@[simp] theorem State.setSlewSet_inReset (x : SlewSettings) : (s.setSlewSet x).inReset = s.inReset := rfl
@[simp] theorem State.setSlewSet_ports (x : SlewSettings) : (s.setSlewSet x).ports = s.ports := rfl
@[simp] theorem State.setSlewSet_token (x : SlewSettings) : (s.setSlewSet x).token = s.token := rfl
@[simp] theorem State.setSlewSet_auth (x : SlewSettings) : (s.setSlewSet x).auth = s.auth := rfl
@[simp] theorem State.setSlewSet_showRec (x : SlewSettings) : (s.setSlewSet x).showRec = s.showRec := rfl
@[simp] theorem State.setSlewSet_chain (x : SlewSettings) : (s.setSlewSet x).chain = s.chain := rfl
@[simp] theorem State.setSlewSet_tiles (x : SlewSettings) : (s.setSlewSet x).tiles = s.tiles := rfl
@[simp] theorem State.setSlewSet_store (x : SlewSettings) : (s.setSlewSet x).store = s.store := rfl
@[simp] theorem State.setSlewSet_inverse (x : SlewSettings) : (s.setSlewSet x).inverse = s.inverse := rfl
@[simp] theorem State.setSlewSet_tempSet (x : SlewSettings) : (s.setSlewSet x).tempSet = s.tempSet := rfl
@[simp] theorem State.setSlewSet_wall (x : SlewSettings) : (s.setSlewSet x).wall = s.wall := rfl
@[simp] theorem State.setSlewSet_slewSet (x : SlewSettings) : (s.setSlewSet x).slewSet = x := rfl
@[simp] theorem State.setSlewSet_protSet (x : SlewSettings) : (s.setSlewSet x).protSet = s.protSet := rfl
@[simp] theorem State.setSlewSet_budget (x : SlewSettings) : (s.setSlewSet x).budget = s.budget := rfl
@[simp] theorem State.setSlewSet_sweep (x : SlewSettings) : (s.setSlewSet x).sweep = s.sweep := rfl
@[simp] theorem State.setSlewSet_pending (x : SlewSettings) : (s.setSlewSet x).pending = s.pending := rfl

/-! `State.setProtSet` -/

@[simp] theorem State.setProtSet_inReset (x : ProtSettings) : (s.setProtSet x).inReset = s.inReset := rfl
@[simp] theorem State.setProtSet_ports (x : ProtSettings) : (s.setProtSet x).ports = s.ports := rfl
@[simp] theorem State.setProtSet_token (x : ProtSettings) : (s.setProtSet x).token = s.token := rfl
@[simp] theorem State.setProtSet_auth (x : ProtSettings) : (s.setProtSet x).auth = s.auth := rfl
@[simp] theorem State.setProtSet_showRec (x : ProtSettings) : (s.setProtSet x).showRec = s.showRec := rfl
@[simp] theorem State.setProtSet_chain (x : ProtSettings) : (s.setProtSet x).chain = s.chain := rfl
@[simp] theorem State.setProtSet_tiles (x : ProtSettings) : (s.setProtSet x).tiles = s.tiles := rfl
@[simp] theorem State.setProtSet_store (x : ProtSettings) : (s.setProtSet x).store = s.store := rfl
@[simp] theorem State.setProtSet_inverse (x : ProtSettings) : (s.setProtSet x).inverse = s.inverse := rfl
@[simp] theorem State.setProtSet_tempSet (x : ProtSettings) : (s.setProtSet x).tempSet = s.tempSet := rfl
@[simp] theorem State.setProtSet_wall (x : ProtSettings) : (s.setProtSet x).wall = s.wall := rfl
@[simp] theorem State.setProtSet_slewSet (x : ProtSettings) : (s.setProtSet x).slewSet = s.slewSet := rfl
@[simp] theorem State.setProtSet_protSet (x : ProtSettings) : (s.setProtSet x).protSet = x := rfl
@[simp] theorem State.setProtSet_budget (x : ProtSettings) : (s.setProtSet x).budget = s.budget := rfl
@[simp] theorem State.setProtSet_sweep (x : ProtSettings) : (s.setProtSet x).sweep = s.sweep := rfl
@[simp] theorem State.setProtSet_pending (x : ProtSettings) : (s.setProtSet x).pending = s.pending := rfl

/-! `State.setBudget` -/

@[simp] theorem State.setBudget_inReset (x : Budget) : (s.setBudget x).inReset = s.inReset := rfl
@[simp] theorem State.setBudget_ports (x : Budget) : (s.setBudget x).ports = s.ports := rfl
@[simp] theorem State.setBudget_token (x : Budget) : (s.setBudget x).token = s.token := rfl
@[simp] theorem State.setBudget_auth (x : Budget) : (s.setBudget x).auth = s.auth := rfl
@[simp] theorem State.setBudget_showRec (x : Budget) : (s.setBudget x).showRec = s.showRec := rfl
@[simp] theorem State.setBudget_chain (x : Budget) : (s.setBudget x).chain = s.chain := rfl
@[simp] theorem State.setBudget_tiles (x : Budget) : (s.setBudget x).tiles = s.tiles := rfl
@[simp] theorem State.setBudget_store (x : Budget) : (s.setBudget x).store = s.store := rfl
@[simp] theorem State.setBudget_inverse (x : Budget) : (s.setBudget x).inverse = s.inverse := rfl
@[simp] theorem State.setBudget_tempSet (x : Budget) : (s.setBudget x).tempSet = s.tempSet := rfl
@[simp] theorem State.setBudget_wall (x : Budget) : (s.setBudget x).wall = s.wall := rfl
@[simp] theorem State.setBudget_slewSet (x : Budget) : (s.setBudget x).slewSet = s.slewSet := rfl
@[simp] theorem State.setBudget_protSet (x : Budget) : (s.setBudget x).protSet = s.protSet := rfl
@[simp] theorem State.setBudget_budget (x : Budget) : (s.setBudget x).budget = x := rfl
@[simp] theorem State.setBudget_sweep (x : Budget) : (s.setBudget x).sweep = s.sweep := rfl
@[simp] theorem State.setBudget_pending (x : Budget) : (s.setBudget x).pending = s.pending := rfl

/-! `State.setSweep` -/

@[simp] theorem State.setSweep_inReset (x : SweepRec) : (s.setSweep x).inReset = s.inReset := rfl
@[simp] theorem State.setSweep_ports (x : SweepRec) : (s.setSweep x).ports = s.ports := rfl
@[simp] theorem State.setSweep_token (x : SweepRec) : (s.setSweep x).token = s.token := rfl
@[simp] theorem State.setSweep_auth (x : SweepRec) : (s.setSweep x).auth = s.auth := rfl
@[simp] theorem State.setSweep_showRec (x : SweepRec) : (s.setSweep x).showRec = s.showRec := rfl
@[simp] theorem State.setSweep_chain (x : SweepRec) : (s.setSweep x).chain = s.chain := rfl
@[simp] theorem State.setSweep_tiles (x : SweepRec) : (s.setSweep x).tiles = s.tiles := rfl
@[simp] theorem State.setSweep_store (x : SweepRec) : (s.setSweep x).store = s.store := rfl
@[simp] theorem State.setSweep_inverse (x : SweepRec) : (s.setSweep x).inverse = s.inverse := rfl
@[simp] theorem State.setSweep_tempSet (x : SweepRec) : (s.setSweep x).tempSet = s.tempSet := rfl
@[simp] theorem State.setSweep_wall (x : SweepRec) : (s.setSweep x).wall = s.wall := rfl
@[simp] theorem State.setSweep_slewSet (x : SweepRec) : (s.setSweep x).slewSet = s.slewSet := rfl
@[simp] theorem State.setSweep_protSet (x : SweepRec) : (s.setSweep x).protSet = s.protSet := rfl
@[simp] theorem State.setSweep_budget (x : SweepRec) : (s.setSweep x).budget = s.budget := rfl
@[simp] theorem State.setSweep_sweep (x : SweepRec) : (s.setSweep x).sweep = x := rfl
@[simp] theorem State.setSweep_pending (x : SweepRec) : (s.setSweep x).pending = s.pending := rfl

/-! `State.setPending` -/

@[simp] theorem State.setPending_inReset (x : List Instr) : (s.setPending x).inReset = s.inReset := rfl
@[simp] theorem State.setPending_ports (x : List Instr) : (s.setPending x).ports = s.ports := rfl
@[simp] theorem State.setPending_token (x : List Instr) : (s.setPending x).token = s.token := rfl
@[simp] theorem State.setPending_auth (x : List Instr) : (s.setPending x).auth = s.auth := rfl
@[simp] theorem State.setPending_showRec (x : List Instr) : (s.setPending x).showRec = s.showRec := rfl
@[simp] theorem State.setPending_chain (x : List Instr) : (s.setPending x).chain = s.chain := rfl
@[simp] theorem State.setPending_tiles (x : List Instr) : (s.setPending x).tiles = s.tiles := rfl
@[simp] theorem State.setPending_store (x : List Instr) : (s.setPending x).store = s.store := rfl
@[simp] theorem State.setPending_inverse (x : List Instr) : (s.setPending x).inverse = s.inverse := rfl
@[simp] theorem State.setPending_tempSet (x : List Instr) : (s.setPending x).tempSet = s.tempSet := rfl
@[simp] theorem State.setPending_wall (x : List Instr) : (s.setPending x).wall = s.wall := rfl
@[simp] theorem State.setPending_slewSet (x : List Instr) : (s.setPending x).slewSet = s.slewSet := rfl
@[simp] theorem State.setPending_protSet (x : List Instr) : (s.setPending x).protSet = s.protSet := rfl
@[simp] theorem State.setPending_budget (x : List Instr) : (s.setPending x).budget = s.budget := rfl
@[simp] theorem State.setPending_sweep (x : List Instr) : (s.setPending x).sweep = s.sweep := rfl
@[simp] theorem State.setPending_pending (x : List Instr) : (s.setPending x).pending = x := rfl

/-! ## Tiles -/

variable (t : Tile)

@[simp] theorem Tile.setChain_chain (x : SlotRec) : (t.setChain x).chain = x := rfl
@[simp] theorem Tile.setChain_held (x : SlotRec) : (t.setChain x).held = t.held := rfl
@[simp] theorem Tile.setChain_temp (x : SlotRec) : (t.setChain x).temp = t.temp := rfl
@[simp] theorem Tile.setChain_eng (x : SlotRec) : (t.setChain x).eng = t.eng := rfl
@[simp] theorem Tile.setChain_slew (x : SlotRec) : (t.setChain x).slew = t.slew := rfl
@[simp] theorem Tile.setChain_prot (x : SlotRec) : (t.setChain x).prot = t.prot := rfl

@[simp] theorem Tile.setHeld_chain (x : Held) : (t.setHeld x).chain = t.chain := rfl
@[simp] theorem Tile.setHeld_held (x : Held) : (t.setHeld x).held = x := rfl
@[simp] theorem Tile.setHeld_temp (x : Held) : (t.setHeld x).temp = t.temp := rfl
@[simp] theorem Tile.setHeld_eng (x : Held) : (t.setHeld x).eng = t.eng := rfl
@[simp] theorem Tile.setHeld_slew (x : Held) : (t.setHeld x).slew = t.slew := rfl
@[simp] theorem Tile.setHeld_prot (x : Held) : (t.setHeld x).prot = t.prot := rfl

@[simp] theorem Tile.setTemp_chain (x : TempRec) : (t.setTemp x).chain = t.chain := rfl
@[simp] theorem Tile.setTemp_held (x : TempRec) : (t.setTemp x).held = t.held := rfl
@[simp] theorem Tile.setTemp_temp (x : TempRec) : (t.setTemp x).temp = x := rfl
@[simp] theorem Tile.setTemp_eng (x : TempRec) : (t.setTemp x).eng = t.eng := rfl
@[simp] theorem Tile.setTemp_slew (x : TempRec) : (t.setTemp x).slew = t.slew := rfl
@[simp] theorem Tile.setTemp_prot (x : TempRec) : (t.setTemp x).prot = t.prot := rfl

@[simp] theorem Tile.setEng_chain (x : EngineRec) : (t.setEng x).chain = t.chain := rfl
@[simp] theorem Tile.setEng_held (x : EngineRec) : (t.setEng x).held = t.held := rfl
@[simp] theorem Tile.setEng_temp (x : EngineRec) : (t.setEng x).temp = t.temp := rfl
@[simp] theorem Tile.setEng_eng (x : EngineRec) : (t.setEng x).eng = x := rfl
@[simp] theorem Tile.setEng_slew (x : EngineRec) : (t.setEng x).slew = t.slew := rfl
@[simp] theorem Tile.setEng_prot (x : EngineRec) : (t.setEng x).prot = t.prot := rfl

@[simp] theorem Tile.setSlew_chain (x : SlewRec) : (t.setSlew x).chain = t.chain := rfl
@[simp] theorem Tile.setSlew_held (x : SlewRec) : (t.setSlew x).held = t.held := rfl
@[simp] theorem Tile.setSlew_temp (x : SlewRec) : (t.setSlew x).temp = t.temp := rfl
@[simp] theorem Tile.setSlew_eng (x : SlewRec) : (t.setSlew x).eng = t.eng := rfl
@[simp] theorem Tile.setSlew_slew (x : SlewRec) : (t.setSlew x).slew = x := rfl
@[simp] theorem Tile.setSlew_prot (x : SlewRec) : (t.setSlew x).prot = t.prot := rfl

@[simp] theorem Tile.setProt_chain (x : ProtRec) : (t.setProt x).chain = t.chain := rfl
@[simp] theorem Tile.setProt_held (x : ProtRec) : (t.setProt x).held = t.held := rfl
@[simp] theorem Tile.setProt_temp (x : ProtRec) : (t.setProt x).temp = t.temp := rfl
@[simp] theorem Tile.setProt_eng (x : ProtRec) : (t.setProt x).eng = t.eng := rfl
@[simp] theorem Tile.setProt_slew (x : ProtRec) : (t.setProt x).slew = t.slew := rfl
@[simp] theorem Tile.setProt_prot (x : ProtRec) : (t.setProt x).prot = x := rfl

end Sys2Proof.Machine
end

