-- ==== Sys2Proof/Laws/Tables.lean ====
section
/-! SUPPORT. What reading a table and a triple gives after each of their updates. -/

namespace Sys2Proof

/-! ## Triples -/

@[simp] theorem RGB.get_put_same {α : Type} (x : RGB α) (c : Chan) (v : α) : (x.put c v).get c = v := by cases c <;> rfl

theorem RGB.get_put_other {α : Type} (x : RGB α) (c d : Chan) (v : α) (h : d ≠ c) : (x.put c v).get d = x.get d := by
  cases c <;> cases d <;> first | rfl | exact absurd rfl h

@[simp] theorem RGB.get_map {α β : Type} (f : α → β) (x : RGB α) (c : Chan) : (x.map f).get c = f (x.get c) := by
  cases c <;> rfl

@[simp] theorem RGB.get_zip {α β γ : Type} (f : α → β → γ) (x : RGB α) (y : RGB β) (c : Chan) :
    (x.zip f y).get c = f (x.get c) (y.get c) := by cases c <;> rfl

@[simp] theorem RGB.get_all {α : Type} (v : α) (c : Chan) : (RGB.all v).get c = v := by cases c <;> rfl

theorem RGB.ext_get {α : Type} {x y : RGB α} (h : ∀ c, x.get c = y.get c) : x = y := by
  have hr := h .r; have hg := h .g; have hb := h .b
  cases x; cases y; simp_all [RGB.get]

/-! ## Tables -/

namespace Table

variable {α β : Type} {n : Nat}

theorem get_eq (t : Table α n) (i : Fin n) : t.get i = t.cells[i.val]'(by rw [t.size]; exact i.isLt) := rfl

theorem ext_get {t u : Table α n} (h : ∀ i, t.get i = u.get i) : t = u := by
  cases t with
  | mk xs hx =>
    cases u with
    | mk ys hy =>
      have : xs = ys := by
        refine List.ext_get (by omega) fun k hk hk' => ?_
        simpa [get] using h ⟨k, by omega⟩
      subst this; rfl

@[simp] theorem get_put_same (t : Table α n) (i : Fin n) (v : α) : (t.put i v).get i = v := by
  simp only [get_eq, put, List.getElem_set_self]

theorem get_put_other (t : Table α n) (i j : Fin n) (v : α) (h : j ≠ i) : (t.put i v).get j = t.get j := by
  have : i.val ≠ j.val := fun e => h (Fin.ext e.symm)
  simp only [get_eq, put, List.getElem_set_ne this]

theorem get_put (t : Table α n) (i j : Fin n) (v : α) : (t.put i v).get j = if j = i then v else t.get j := by
  by_cases h : j = i
  · subst h; simp
  · rw [get_put_other t i j v h, if_neg h]

@[simp] theorem put_get (t : Table α n) (i : Fin n) : t.put i (t.get i) = t :=
  ext_get fun j => by rw [get_put]; split <;> simp_all

@[simp] theorem get_fill (v : α) (i : Fin n) : (fill n v).get i = v := by simp [get, fill]

theorem getElem_mapGo (f : Fin n → α → β) (xs : List α) (k : Nat) (h : k + xs.length = n) (j : Nat) (hj : j < xs.length) :
    (mapGo f xs k h)[j]'(by rw [length_mapGo]; exact hj) = f ⟨k + j, by omega⟩ xs[j] := by
  induction xs generalizing k j with
  | nil => simp at hj
  | cons x xs ih =>
    cases j with
    | zero => simp [mapGo]
    | succ j =>
      simp only [mapGo, List.getElem_cons_succ]
      rw [ih (k + 1) (by simp at h; omega) j (by simpa using hj)]
      congr 1
      exact Fin.ext (by simp; omega)

@[simp] theorem get_mapIdx (f : Fin n → α → β) (t : Table α n) (i : Fin n) : (t.mapIdx f).get i = f i (t.get i) := by
  have := getElem_mapGo f t.cells 0 (by simp [t.size]) i.val (by simp [t.size])
  simpa only [get_eq, mapIdx, Nat.zero_add] using this

@[simp] theorem get_map (f : α → β) (t : Table α n) (i : Fin n) : (t.map f).get i = f (t.get i) := by
  simp [map]

/-- The numbered records are exactly the records with their numbers. -/
theorem mem_entries (t : Table α n) (i : Fin n) (v : α) : (i, v) ∈ t.entries ↔ t.get i = v := by
  unfold entries
  constructor
  · intro h
    obtain ⟨k, hk, e⟩ := List.mem_iff_getElem.mp h
    have hn : k < n := by simpa [(t.mapIdx fun i x => (i, x)).size] using hk
    have := get_mapIdx (fun i x => (i, x)) t ⟨k, hn⟩
    simp only [get, List.get_eq_getElem, Fin.cast_mk] at this
    rw [this] at e
    simp only [Prod.mk.injEq] at e
    obtain ⟨rfl, rfl⟩ := e
    simp [get]
  · intro h
    have := get_mapIdx (fun i x => (i, x)) t i
    rw [h] at this
    rw [← this]
    exact List.get_mem _ _

end Table

theorem mem_slots (i : Slot) : i ∈ slots := List.mem_finRange i

end Sys2Proof
end

