-- ==== Sys2Proof/Laws/Ports.lean ====
section
/-! SUPPORT. What the shared operations on ports, notices and authority do, said once each. -/

namespace Sys2Proof.Machine

variable (s : State)

/-! ## Reading a port or a tile after an update elsewhere -/

@[simp] theorem State.port_setInReset (x) (p : Port) : (s.setInReset x).port p = s.port p := rfl
@[simp] theorem State.port_setToken (x) (p : Port) : (s.setToken x).port p = s.port p := rfl
@[simp] theorem State.port_setAuth (x) (p : Port) : (s.setAuth x).port p = s.port p := rfl
@[simp] theorem State.port_setShowRec (x) (p : Port) : (s.setShowRec x).port p = s.port p := rfl
@[simp] theorem State.port_setChain (x) (p : Port) : (s.setChain x).port p = s.port p := rfl
@[simp] theorem State.port_setTiles (x) (p : Port) : (s.setTiles x).port p = s.port p := rfl
@[simp] theorem State.port_setStore (x) (p : Port) : (s.setStore x).port p = s.port p := rfl
@[simp] theorem State.port_setInverse (x) (p : Port) : (s.setInverse x).port p = s.port p := rfl
@[simp] theorem State.port_setTempSet (x) (p : Port) : (s.setTempSet x).port p = s.port p := rfl
@[simp] theorem State.port_setWall (x) (p : Port) : (s.setWall x).port p = s.port p := rfl
@[simp] theorem State.port_setSlewSet (x) (p : Port) : (s.setSlewSet x).port p = s.port p := rfl
@[simp] theorem State.port_setProtSet (x) (p : Port) : (s.setProtSet x).port p = s.port p := rfl
@[simp] theorem State.port_setBudget (x) (p : Port) : (s.setBudget x).port p = s.port p := rfl
@[simp] theorem State.port_setSweep (x) (p : Port) : (s.setSweep x).port p = s.port p := rfl
@[simp] theorem State.port_setPending (x) (p : Port) : (s.setPending x).port p = s.port p := rfl
@[simp] theorem State.port_setPorts (r : Ports) (p : Port) : (s.setPorts r).port p = r.get p := rfl

@[simp] theorem State.tile_setInReset (x) (i : Slot) : (s.setInReset x).tile i = s.tile i := rfl
@[simp] theorem State.tile_setPorts (x) (i : Slot) : (s.setPorts x).tile i = s.tile i := rfl
@[simp] theorem State.tile_setToken (x) (i : Slot) : (s.setToken x).tile i = s.tile i := rfl
@[simp] theorem State.tile_setAuth (x) (i : Slot) : (s.setAuth x).tile i = s.tile i := rfl
@[simp] theorem State.tile_setShowRec (x) (i : Slot) : (s.setShowRec x).tile i = s.tile i := rfl
@[simp] theorem State.tile_setChain (x) (i : Slot) : (s.setChain x).tile i = s.tile i := rfl
@[simp] theorem State.tile_setStore (x) (i : Slot) : (s.setStore x).tile i = s.tile i := rfl
@[simp] theorem State.tile_setInverse (x) (i : Slot) : (s.setInverse x).tile i = s.tile i := rfl
@[simp] theorem State.tile_setTempSet (x) (i : Slot) : (s.setTempSet x).tile i = s.tile i := rfl
@[simp] theorem State.tile_setWall (x) (i : Slot) : (s.setWall x).tile i = s.tile i := rfl
@[simp] theorem State.tile_setSlewSet (x) (i : Slot) : (s.setSlewSet x).tile i = s.tile i := rfl
@[simp] theorem State.tile_setProtSet (x) (i : Slot) : (s.setProtSet x).tile i = s.tile i := rfl
@[simp] theorem State.tile_setBudget (x) (i : Slot) : (s.setBudget x).tile i = s.tile i := rfl
@[simp] theorem State.tile_setSweep (x) (i : Slot) : (s.setSweep x).tile i = s.tile i := rfl
@[simp] theorem State.tile_setPending (x) (i : Slot) : (s.setPending x).tile i = s.tile i := rfl
@[simp] theorem State.tile_setTiles (x : Table Tile 64) (i : Slot) : (s.setTiles x).tile i = x.get i := rfl

@[simp] theorem Ports.get_put_same (r : Ports) (p : Port) (x : PortRec) : (r.put p x).get p = x := by
  rcases p with (_ | _) | _ <;> rfl

theorem Ports.get_put_other (r : Ports) (p q : Port) (x : PortRec) (h : q ≠ p) : (r.put p x).get q = r.get q := by
  rcases p with (_ | _) | _ <;> rcases q with (_ | _) | _ <;> first | rfl | exact absurd rfl h

theorem Ports.ext_get {r u : Ports} (h : ∀ p, r.get p = u.get p) : r = u := by
  have ha := h (.prog .A); have hb := h (.prog .B); have hs := h .service
  cases r; cases u; simp_all [Ports.get]

@[simp] theorem State.port_putPort_same (p : Port) (x : PortRec) : (s.putPort p x).port p = x := by
  simp [State.putPort]

theorem State.port_putPort_other (p q : Port) (x : PortRec) (h : q ≠ p) : (s.putPort p x).port q = s.port q := by
  exact Ports.get_put_other s.ports p q x h

@[simp] theorem State.tile_putTile_same (i : Slot) (t : Tile) : (s.putTile i t).tile i = t := by
  simp [State.putTile]

theorem State.tile_putTile_other (i j : Slot) (t : Tile) (h : j ≠ i) : (s.putTile i t).tile j = s.tile j := by
  exact Table.get_put_other s.tiles i j t h

@[simp] theorem State.port_putTile (i : Slot) (t : Tile) (p : Port) : (s.putTile i t).port p = s.port p := rfl
@[simp] theorem State.tile_putPort (p : Port) (x : PortRec) (i : Slot) : (s.putPort p x).tile i = s.tile i := rfl

/-- An update of one port changes the port records alone. -/
theorem State.putPort_frame (p : Port) (x : PortRec) : s.putPort p x = { s with ports := s.ports.put p x } := rfl

/-- An update of one tile changes the tiles alone. -/
theorem State.putTile_frame (i : Slot) (t : Tile) : s.putTile i t = { s with tiles := s.tiles.put i t } := rfl

/-! ## Notices -/

@[simp] theorem Notices.union_none (x : Notices) : x.union {} = x := by simp [Notices.union]

theorem Notices.union_self_right (x y : Notices) : x.union (x.union y) = x.union y := by
  simp [Notices.union]

theorem Notices.union_assoc (x y z : Notices) : (x.union y).union z = x.union (y.union z) := by
  simp [Notices.union, Bool.or_assoc]

@[simp] theorem PortRec.notice_none (r : PortRec) : r.notice {} = r := by simp [PortRec.notice]

/-- Notices reach the pending set of every port and nothing else. -/
theorem State.port_noticeAll (n : Notices) (p : Port) : (s.noticeAll n).port p = (s.port p).notice n := by
  rcases p with (_ | _) | _ <;> rfl

theorem State.noticeAll_frame (n : Notices) : s.noticeAll n = { s with ports := (s.noticeAll n).ports } := rfl

@[simp] theorem State.tile_noticeAll (n : Notices) (i : Slot) : (s.noticeAll n).tile i = s.tile i := rfl

@[simp] theorem State.noticeAll_none : s.noticeAll {} = s := by simp [State.noticeAll, State.setPorts]

/-! ## Completions -/

/-- A completion replaces its port's result, frees its slot, clears abort requested and adds JOB; no other port and nothing else
moves (R193). -/
theorem complete_spec (p : Port) (n : ReqName) (v : Verdict) (why : Option Reason) (d : ResultData) :
    PortsAfter p ⟨n, v, why, d⟩ {} s (complete p n v why d s)
      ∧ complete p n v why d s = { s with ports := (complete p n v why d s).ports } := by
  refine ⟨⟨?_, fun q h => ?_⟩, rfl⟩
  · simp [complete, PortRec.complete]
  · simpa [complete] using State.port_putPort_other s p q _ h

/-- A completion whose notices reach every port as well. -/
theorem complete_noticeAll_spec (p : Port) (n : ReqName) (v : Verdict) (why : Option Reason) (d : ResultData) (ns : Notices) :
    PortsAfter p ⟨n, v, why, d⟩ ns s ((complete p n v why d s).noticeAll ns) := by
  refine ⟨?_, fun q h => ?_⟩
  · rw [State.port_noticeAll]
    simp [complete, PortRec.complete, PortRec.notice, Notices.union, Bool.or_comm]
  · rw [State.port_noticeAll]
    exact congrArg (·.notice ns) (State.port_putPort_other s p q _ h)

@[simp] theorem tile_complete (p : Port) (n : ReqName) (v : Verdict) (why : Option Reason) (d : ResultData) (i : Slot) :
    (complete p n v why d s).tile i = s.tile i := rfl

/-! ## Liveness timers -/

/-- A transaction moves at most its own port's liveness timer (R178). -/
theorem touch_eq (p : Port) : touch p s = s.setAuth (trafficAuth p s) := by
  rcases p with (_ | _) | _ <;> rfl

theorem Authority.timer_setTimer (a : Authority) (q r : Prog) (x : LTimer) :
    (a.setTimer q x).timer r = if r = q then x else a.timer r := by
  cases q <;> cases r <;> rfl

/-- Authority that leaves its port passes to the standby, whose CLAIM completes, or becomes VACANT (R179, R182). -/
theorem passAuthority_spec (why : LastChange) :
    (∀ n, s.auth.standby = some n →
        PortsAfter (.prog n) ⟨.claim, .done, none, .claim (some n) s.auth.key.isSome⟩ { auth := true } s (passAuthority why s)
        ∧ (passAuthority why s).auth = { s.auth.setTimer n (.running (s.showRec.timeout * 50)) with
            holder := some n, standby := none, lastChange := .handover, changes := (s.auth.changes + 1) % 65536 })
      ∧ (s.auth.standby = none →
        (∀ p, (passAuthority why s).port p = (s.port p).notice { auth := true })
        ∧ (passAuthority why s).auth = { s.auth with
            holder := none, lastChange := why, changes := (s.auth.changes + 1) % 65536 }) := by
  constructor
  · intro n h
    simp only [passAuthority, h]
    refine ⟨?_, ?_⟩
    · have := complete_noticeAll_spec ((s.setAuth { s.auth with
          holder := some n, standby := none, lastChange := .handover, changes := nextCount s.auth.changes }).restartTimer n)
        (.prog n) .claim .done none (.claim (some n) s.auth.key.isSome) { auth := true }
      cases n <;> exact this
    · cases n <;> rfl
  · intro h
    simp only [passAuthority, h]
    exact ⟨fun p => by rw [State.port_noticeAll]; rfl, by rfl⟩

theorem passAuthority_frame (why : LastChange) :
    passAuthority why s = { s with ports := (passAuthority why s).ports, auth := (passAuthority why s).auth } := by
  unfold passAuthority
  split <;> rfl

end Sys2Proof.Machine
end

