-- ==== Sys2Proof/Laws/Events.lean ====
section
/-! SUPPORT. What the end of an event and the taking of a POST can do. -/

namespace Sys2Proof.Machine

variable (s : State)

/-! ## The notices of an event -/

/-- The end of an event moves pending sets alone. -/
theorem port_notify (before after : State) (p : Port) :
    (notify before after).port p =
      (after.port p).notice { tile := tileDue before after, cond := condDue before after } := State.port_noticeAll _ _ _

@[simp] theorem tile_notify (before after : State) (i : Slot) : (notify before after).tile i = after.tile i := rfl

theorem notify_frame (before after : State) : notify before after = { after with ports := (notify before after).ports } := rfl

theorem tileDue_false {before after : State}
    (h : ∀ i, tileNotice (before.tile i).chain (after.tile i).chain = false) : tileDue before after = false := by
  simp [tileDue, h]

theorem tileDue_of_slot {before after : State} (i : Slot)
    (h : tileNotice (before.tile i).chain (after.tile i).chain = true) : tileDue before after = true := by
  simp only [tileDue, List.any_eq_true]
  exact ⟨i, mem_slots i, h⟩

theorem Cond.sameFlags_self (x : Cond) : x.sameFlags x = true := by simp [Cond.sameFlags]

theorem ProtRec.sameFlags_self (r : ProtRec) : r.sameFlags r = true := by simp [ProtRec.sameFlags, Cond.sameFlags_self]

theorem tileNotice_self (x : SlotRec) : tileNotice x x = false := by
  cases h : x.answering <;> simp [tileNotice, h]

theorem condDue_false {before after : State}
    (h : ∀ i, (before.tile i).prot.sameFlags (after.tile i).prot = true)
    (ha : before.budget.active = after.budget.active) (hl : before.budget.latched = after.budget.latched) :
    condDue before after = false := by
  simp [condDue, h, ha, hl]

/-- An event that changes no slot state, no answering flag, no flag and no action adds no notice. -/
theorem notify_quiet {before after : State} (ht : tileDue before after = false) (hc : condDue before after = false) :
    notify before after = after := by
  simp [notify, ht, hc]

/-- An event that leaves every tile and the budget unit as they are is its effect. -/
theorem event_of_sameTiles (f : State → State) (ht : (f s).tiles = s.tiles) (hb : (f s).budget = s.budget) :
    event f s = f s := by
  have h : ∀ i, (f s).tile i = s.tile i := fun i => by simp [State.tile, ht]
  refine notify_quiet (tileDue_false fun i => ?_) (condDue_false (fun i => ?_) (by rw [hb]) (by rw [hb]))
  · rw [h i]; exact tileNotice_self _
  · rw [h i]; exact ProtRec.sameFlags_self _

/-! ## Posts -/

/-- What becomes of a POST: ignored in reset, discarded with overrun, refused by one of the first three checks, refused RANGE, or
judged by its own effect (R191, R193, R194). -/
theorem post_cases {α : Type} (n : ReqName) (p : Port) (x : Option α) (f : α → State → State) :
    (s.inReset = true ∧ post n p (withBlock n p x f) s = s)
    ∨ (s.inReset = false ∧ (s.port p).busy.isSome = true
        ∧ post n p (withBlock n p x f) s = (touch p s).putPort p { s.port p with overrun := true })
    ∨ (SlotFree p s ∧ ∃ why, admission n p s = some why ∧ post n p (withBlock n p x f) s = refuse p n why (touch p s))
    ∨ (Accepts n p s ∧ x = none ∧ post n p (withBlock n p x f) s = refuse p n .range (touch p s))
    ∨ (Accepts n p s ∧ ∃ v, x = some v ∧ post n p (withBlock n p x f) s = f v (touch p s)) := by
  have hp : (touch p s).port p = s.port p := by rw [touch_eq]; rfl
  have ha : admission n p (touch p s) = admission n p s := by rcases p with (_ | _) | _ <;> rfl
  cases hr : s.inReset
  · right
    cases hb : (s.port p).busy with
    | some m =>
      left
      refine ⟨rfl, rfl, ?_⟩
      simp [post, transaction, hr, hp, hb]
    | none =>
      right
      cases hw : admission n p s with
      | some why =>
        left
        refine ⟨⟨hr, hb⟩, why, rfl, ?_⟩
        simp [post, transaction, hr, hp, hb, ha, hw]
      | none =>
        right
        cases x with
        | none =>
          left
          refine ⟨⟨⟨hr, hb⟩, hw⟩, rfl, ?_⟩
          simp [post, transaction, hr, hp, hb, ha, hw, withBlock]
        | some v =>
          right
          refine ⟨⟨⟨hr, hb⟩, hw⟩, v, rfl, ?_⟩
          simp [post, transaction, hr, hp, hb, ha, hw, withBlock]
  · left
    exact ⟨rfl, by simp [post, transaction, hr]⟩

/-- An accepted POST with a block its reader takes is its effect, with the notices of the event. -/
theorem posted_accepted {α : Type} {n : ReqName} {p : Port} {x : Option α} {v : α} {f : α → State → State}
    (h : Accepts n p s) (hx : x = some v) : posted n p x f s = notify s (f v (s.setAuth (trafficAuth p s))) := by
  obtain ⟨⟨hr, hb⟩, hw⟩ := h
  have hp : (touch p s).port p = s.port p := by rw [touch_eq]; rfl
  have ha : admission n p (touch p s) = admission n p s := by rcases p with (_ | _) | _ <;> rfl
  unfold posted event
  congr 1
  rw [← touch_eq]
  simp [post, transaction, hr, hp, hb, ha, hw, withBlock, hx]

/-- A refused POST changes its own port and a liveness timer, and adds no notice but its own JOB. -/
theorem event_refuse (p : Port) (n : ReqName) (why : Reason) (f : State → State) (h : f s = refuse p n why (touch p s)) :
    event f s = refuse p n why (s.setAuth (trafficAuth p s)) := by
  rw [event_of_sameTiles s f (by rw [h, touch_eq]; rfl) (by rw [h, touch_eq]; rfl), h, touch_eq]

end Sys2Proof.Machine
end

