-- ==== Sys2Proof/Laws/Engine.lean ====
section
/-! SUPPORT. What a formation, a re-formation, a recomputation and the settling of P can do to a tile. -/

namespace Sys2Proof.Machine

/-- A formation writes the pending coefficients and the record of what they were formed from, where the slot has a gain, and
nothing where it has none (R83, R96, R100). -/
theorem formTile_cases (by' : FormedBy) (m sb : Nat) (t : Tile) :
    (t.gain = none ∧ formTile by' m sb t = t)
    ∨ ∃ g, t.gain = some g ∧ formTile by' m sb t = { t with
        chain := { t.chain with pending := some (g.map (coefficient m t.factor sb)) }
        eng := { t.eng with
          gainsUsed := some g, mUsed := some m, pUsed := some t.factor, sbUsed := some sb, formedBy := some by' } } := by
  cases h : t.gain with
  | none => exact .inl ⟨rfl, by simp [formTile, h]⟩
  | some g => exact .inr ⟨g, rfl, by simp [formTile, h, placeCoefs, Tile.setChain, Tile.setEng]⟩

@[simp] theorem formTile_slew (b : FormedBy) (m sb : Nat) (t : Tile) : (formTile b m sb t).slew = t.slew := by
  rcases formTile_cases b m sb t with ⟨_, h⟩ | ⟨g, _, h⟩ <;> rw [h]

@[simp] theorem formTile_prot (b : FormedBy) (m sb : Nat) (t : Tile) : (formTile b m sb t).prot = t.prot := by
  rcases formTile_cases b m sb t with ⟨_, h⟩ | ⟨g, _, h⟩ <;> rw [h]

@[simp] theorem formTile_temp (b : FormedBy) (m sb : Nat) (t : Tile) : (formTile b m sb t).temp = t.temp := by
  rcases formTile_cases b m sb t with ⟨_, h⟩ | ⟨g, _, h⟩ <;> rw [h]

@[simp] theorem formTile_held (b : FormedBy) (m sb : Nat) (t : Tile) : (formTile b m sb t).held = t.held := by
  rcases formTile_cases b m sb t with ⟨_, h⟩ | ⟨g, _, h⟩ <;> rw [h]

/-- A formation moves the pending coefficients of a slot record alone. -/
theorem formTile_chain (b : FormedBy) (m sb : Nat) (t : Tile) : SameButPending t.chain (formTile b m sb t).chain := by
  rcases formTile_cases b m sb t with ⟨_, h⟩ | ⟨g, _, h⟩ <;> (rw [h]; rfl)

/-- Every coefficient of a formation lies in 0..4095 (R96). -/
theorem coefficient_le (m p sb g : Nat) : coefficient m p sb g ≤ 4095 := by simp [coefficient]

/-- Every target gain lies in 0..4096 (R94). -/
theorem targetGain_le (target e : Nat) : targetGain target e ≤ 4096 := by
  unfold targetGain
  split <;> omega

/-- A step stays between the applied gain and the target gain (R114). -/
theorem slewStep_between (x : SlewSettings) (ga gt : Nat) :
    min ga gt ≤ (slewStep x ga gt).1 ∧ (slewStep x ga gt).1 ≤ max ga gt := by
  unfold slewStep
  split
  · simp
  · split <;> simp <;> omega

@[simp] theorem tile_reformAll (s : State) (i : Slot) :
    (reformAll s).tile i = formTile .reform s.showRec.m s.budget.sb (s.tile i) := by
  simp [reformAll, State.tile]

theorem reformAll_frame (s : State) : reformAll s = { s with tiles := (reformAll s).tiles } := rfl

/-- P settled at a tile: P is what the actions make it, and the slot is re-formed where P or OVERHEAT has changed (R134). -/
theorem settleTile_cases (m sb : Nat) (was : Bool) (t : Tile) :
    settleTile m sb was t = t.setProt { t.prot with p := protFactor t.prot }
    ∨ settleTile m sb was t = formTile .reform m sb (t.setProt { t.prot with p := protFactor t.prot }) := by
  by_cases h : (protFactor t.prot != t.prot.p || t.prot.overheat.cond != was) = true
  · exact .inr (if_pos h)
  · exact .inl (if_neg h)

theorem settleTile_prot (m sb : Nat) (was : Bool) (t : Tile) :
    (settleTile m sb was t).prot = { t.prot with p := protFactor t.prot } := by
  rcases settleTile_cases m sb was t with h | h <;> rw [h] <;> simp

theorem settleTile_chain (m sb : Nat) (was : Bool) (t : Tile) : SameButPending t.chain (settleTile m sb was t).chain := by
  rcases settleTile_cases m sb was t with h | h <;> rw [h]
  · rfl
  · exact formTile_chain _ _ _ _

/-- A recomputation writes the tiles, the wall record, the budget unit and pending sets, and nothing else. -/
theorem recompute_frame (s : State) : recompute s = { s with
    tiles := (recompute s).tiles, wall := (recompute s).wall, budget := (recompute s).budget
    ports := (recompute s).ports } := rfl

/-- The tile a recomputation leaves, stage by stage (R82). -/
theorem tile_recompute (s : State) (i : Slot) :
    (recompute s).tile i = formTile .recompute s.showRec.m (recompute s).budget.sb
      (noteTerm s.showRec.m (stages8And9 s.slewSet (recompute s).wall.target
        (stagesTo5 (nextCount s.wall.number) (s.showRec.want.map (floorOf s.showRec.floorRatio)) s.protSet.shortReport
          (s.tile i)))) := by
  refine (Table.get_map _ _ i).trans ?_
  rw [Table.get_map, Table.get_map]
  rfl

/-- What a recomputation leaves of a tile as it was: profile, temperature, every field of the slot record but the pending
coefficients, every condition but SHORT, the override and the manual gains, lit hours and load. -/
theorem tile_recompute_frame (s : State) (i : Slot) :
    ((recompute s).tile i).held = (s.tile i).held ∧ ((recompute s).tile i).temp = (s.tile i).temp
      ∧ SameButPending (s.tile i).chain ((recompute s).tile i).chain
      ∧ ((recompute s).tile i).prot = { (s.tile i).prot with short := ((recompute s).tile i).prot.short }
      ∧ ((recompute s).tile i).slew.override = (s.tile i).slew.override
      ∧ ((recompute s).tile i).slew.manual = (s.tile i).slew.manual
      ∧ ((recompute s).tile i).eng.hours = (s.tile i).eng.hours ∧ ((recompute s).tile i).eng.load = (s.tile i).eng.load := by
  rw [tile_recompute]
  generalize (recompute s).budget.sb = sb
  generalize (recompute s).wall.target = target
  generalize s.tile i = t
  have h5 : ∀ n f b, (stagesTo5 n f b t).held = t.held ∧ (stagesTo5 n f b t).temp = t.temp
      ∧ SameButPending t.chain (stagesTo5 n f b t).chain
      ∧ (stagesTo5 n f b t).prot = { t.prot with short := (stagesTo5 n f b t).prot.short }
      ∧ (stagesTo5 n f b t).slew = t.slew
      ∧ (stagesTo5 n f b t).eng.hours = t.eng.hours ∧ (stagesTo5 n f b t).eng.load = t.eng.load := by
    intro n f b
    unfold stagesTo5
    split
    case h_5 => split <;> exact ⟨rfl, rfl, rfl, rfl, rfl, rfl, rfl⟩
    all_goals exact ⟨rfl, rfl, rfl, rfl, rfl, rfl, rfl⟩
  have h9 : ∀ x g (u : Tile), (stages8And9 x g u).held = u.held ∧ (stages8And9 x g u).temp = u.temp
      ∧ (stages8And9 x g u).chain = u.chain ∧ (stages8And9 x g u).prot = u.prot
      ∧ (stages8And9 x g u).slew.override = u.slew.override ∧ (stages8And9 x g u).slew.manual = u.slew.manual
      ∧ (stages8And9 x g u).eng.hours = u.eng.hours ∧ (stages8And9 x g u).eng.load = u.eng.load := by
    intro x g u
    have hc : ∀ h gt r, (slewComputing x h gt r).override = r.override ∧ (slewComputing x h gt r).manual = r.manual := by
      intro h gt r
      unfold slewComputing
      split
      · exact ⟨rfl, rfl⟩
      · split
        · exact ⟨rfl, rfl⟩
        · split <;> exact ⟨rfl, rfl⟩
    unfold stages8And9
    split
    case h_1 =>
      split
      · exact ⟨rfl, rfl, rfl, rfl, rfl, rfl, rfl, rfl⟩
      · split
        · exact ⟨rfl, rfl, rfl, rfl, (hc _ _ _).1, (hc _ _ _).2, rfl, rfl⟩
        · exact ⟨rfl, rfl, rfl, rfl, rfl, rfl, rfl, rfl⟩
    all_goals exact ⟨rfl, rfl, rfl, rfl, rfl, rfl, rfl, rfl⟩
  have hf : ∀ (m : Nat) (u : Tile), (formTile .recompute m sb (noteTerm m u)).held = u.held
      ∧ (formTile .recompute m sb (noteTerm m u)).temp = u.temp
      ∧ SameButPending u.chain (formTile .recompute m sb (noteTerm m u)).chain
      ∧ (formTile .recompute m sb (noteTerm m u)).prot = u.prot ∧ (formTile .recompute m sb (noteTerm m u)).slew = u.slew
      ∧ (formTile .recompute m sb (noteTerm m u)).eng.hours = u.eng.hours
      ∧ (formTile .recompute m sb (noteTerm m u)).eng.load = u.eng.load := by
    intro m u
    rcases formTile_cases .recompute m sb (noteTerm m u) with ⟨_, h⟩ | ⟨g, _, h⟩ <;> rw [h] <;>
      exact ⟨rfl, rfl, rfl, rfl, rfl, rfl, rfl⟩
  obtain ⟨a1, a2, a3, a4, a5, a6, a7⟩ :=
    h5 (nextCount s.wall.number) (s.showRec.want.map (floorOf s.showRec.floorRatio)) s.protSet.shortReport
  generalize stagesTo5 (nextCount s.wall.number) (s.showRec.want.map (floorOf s.showRec.floorRatio)) s.protSet.shortReport t = u
    at a1 a2 a3 a4 a5 a6 a7 ⊢
  obtain ⟨b1, b2, b3, b4, b5, b6, b7, b8⟩ := h9 s.slewSet target u
  generalize stages8And9 s.slewSet target u = v at b1 b2 b3 b4 b5 b6 b7 b8 ⊢
  obtain ⟨c1, c2, c3, c4, c5, c6, c7⟩ := hf s.showRec.m v
  generalize formTile .recompute s.showRec.m sb (noteTerm s.showRec.m v) = w at c1 c2 c3 c4 c5 c6 c7 ⊢
  refine ⟨by rw [c1, b1, a1], by rw [c2, b2, a2], ?_, by rw [c4, b4]; exact a4, by rw [c5, b5, a5], by rw [c5, b6, a5],
    by rw [c6, b7, a6], by rw [c7, b8, a7]⟩
  rw [b3] at c3
  unfold SameButPending at a3 c3 ⊢
  rw [c3, a3]

end Sys2Proof.Machine
end

