-- ==== Sys2Proof/Laws/Chain.lean ====
section
/-! SUPPORT. What the store, the resolver, the sweep sequencer and the chain controller's shared operations can do, said once
each. -/

namespace Sys2Proof.Machine

variable (s : State)

/-! ## The resolver -/

/-- A failed binding leaves every record of the tile but the slot record's state, reason and bound profile, the profile and the
applied gains (R43, R116). -/
theorem failBinding_frame (why : UnprofReason) (w : Working) (t : Tile) :
    (failBinding why w t).temp = t.temp ∧ (failBinding why w t).eng = t.eng ∧ (failBinding why w t).prot = t.prot
      ∧ (failBinding why w t).held = .part w ∧ (failBinding why w t).slew = { t.slew with ga := some (RGB.all 4096) }
      ∧ (failBinding why w t).chain.bound = 0 ∧ (failBinding why w t).chain.serial = t.chain.serial
      ∧ (failBinding why w t).chain.reason = some why := by
  unfold failBinding
  dsimp only
  split <;> exact ⟨rfl, rfl, rfl, rfl, rfl, rfl, rfl, rfl⟩

/-- A binding of slot `i` moves slot `i` alone. -/
theorem tryBind_frame (i : Slot) : tryBind i s = s.putTile i ((tryBind i s).tile i) := by
  unfold tryBind
  split <;> simp

theorem tile_tryBind_other (i j : Slot) (h : j ≠ i) : (tryBind i s).tile j = s.tile j := by
  rw [tryBind_frame]
  exact State.tile_putTile_other _ _ _ _ h

/-- Binding tried over a list of slots moves only tiles that wait. -/
theorem foldl_tryBindIf_frame (p : SlotRec → Bool) (is : List Slot) :
    is.foldl (tryBindIf p) s = { s with tiles := (is.foldl (tryBindIf p) s).tiles }
      ∧ ∀ i, p (s.tile i).chain = false → (is.foldl (tryBindIf p) s).tile i = s.tile i := by
  induction is generalizing s with
  | nil => exact ⟨rfl, fun _ _ => rfl⟩
  | cons j is ih =>
    have hj : tryBindIf p s j = { s with tiles := (tryBindIf p s j).tiles } := by
      unfold tryBindIf
      split
      · rw [tryBind_frame]; rfl
      · rfl
    have ht : ∀ i, p (s.tile i).chain = false → (tryBindIf p s j).tile i = s.tile i := by
      intro i hi
      unfold tryBindIf
      split
      · rename_i hp
        refine tile_tryBind_other s j i fun e => ?_
        subst e
        simp [hp] at hi
      · rfl
    obtain ⟨h1, h2⟩ := ih (tryBindIf p s j)
    refine ⟨?_, fun i hi => ?_⟩
    · simp only [List.foldl_cons]
      rw [h1, hj]
    · simp only [List.foldl_cons]
      rw [h2 i (by rw [ht i hi]; exact hi), ht i hi]

/-! ## Sweeps and the store -/

/-- A sweep that has an issuer ends at its port with its tallies, and frees the token (R163, R171, R199). -/
theorem endSweep_spec (v : Verdict) (why : Option Reason) (p : Port) (h : s.sweep.issuer = some p) :
    PortsAfter p ⟨.sweep, v, why, s.sweep.result⟩ {} s (endSweep v why s)
      ∧ endSweep v why s = { s with ports := (endSweep v why s).ports, token := .free, sweep := s.sweep.ended } := by
  have := complete_spec ((s.setSweep s.sweep.ended).setToken .free) p .sweep v why s.sweep.result
  simp only [endSweep, h]
  exact ⟨this.1, rfl⟩

/-- The end of a sweep moves the ports, the token and the sweep record alone. -/
theorem endSweep_frame (v : Verdict) (why : Option Reason) : endSweep v why s = { s with
    ports := (endSweep v why s).ports, token := (endSweep v why s).token, sweep := (endSweep v why s).sweep } := by
  unfold endSweep
  split <;> rfl

/-- The report of a sense write moves the tile it was handed for in its PROBE alone, the sweep record, and the ports and token where
the sweep is done. -/
theorem reportSense_frame (w : SenseWrite) (ok : Bool) : reportSense w ok s = { s with
    tiles := (reportSense w ok s).tiles, sweep := (reportSense w ok s).sweep, ports := (reportSense w ok s).ports
    token := (reportSense w ok s).token } := by
  have hp : reportProbe w ok s = { s with tiles := (reportProbe w ok s).tiles } := by
    unfold reportProbe
    split
    · split <;> rfl
    · rfl
  have hq : ∀ s : State, reportTally w ok s = { s with sweep := (reportTally w ok s).sweep } := by
    intro s
    unfold reportTally
    split <;> rfl
  have hd : ∀ s : State, sweepDoneIfWaiting s = { s with
      ports := (sweepDoneIfWaiting s).ports, token := (sweepDoneIfWaiting s).token, sweep := (sweepDoneIfWaiting s).sweep } := by
    intro s
    unfold sweepDoneIfWaiting
    split
    · exact endSweep_frame s _ _
    · rfl
  unfold reportSense
  rw [hd, hq, hp]

/-- The queue reaching the store touches no area: the profiles, the map and the losses stand, and the write in flight is the first
sense write that fits, if any (R26, R28). -/
theorem startQueue_store (ws : List SenseWrite) :
    (startQueue ws s).store.profiles = s.store.profiles ∧ (startQueue ws s).store.map = s.store.map
      ∧ (startQueue ws s).store.profileLosses = s.store.profileLosses ∧ (startQueue ws s).store.mapLosses = s.store.mapLosses
      ∧ (startQueue ws s).store.lost = s.store.lost
      ∧ ((startQueue ws s).store.write = none
          ∨ ∃ w ∈ ws, s.store.senseFits w = true ∧ (startQueue ws s).store.write = some ⟨.senseWrite w, none⟩) := by
  induction ws generalizing s with
  | nil => exact ⟨rfl, rfl, rfl, rfl, rfl, .inl rfl⟩
  | cons w ws ih =>
    unfold startQueue
    by_cases h : s.store.senseFits w = true
    · rw [if_pos h]
      exact ⟨rfl, rfl, rfl, rfl, rfl, .inr ⟨w, by simp, h, rfl⟩⟩
    · rw [if_neg h]
      have hs : (reportSense w false s).store = s.store := by rw [reportSense_frame]
      obtain ⟨h1, h2, h3, h4, h5, h6⟩ := ih (reportSense w false s)
      rw [hs] at h1 h2 h3 h4 h5 h6
      refine ⟨h1, h2, h3, h4, h5, h6.imp id ?_⟩
      rintro ⟨v, hv, hf, hw⟩
      exact ⟨v, List.mem_cons_of_mem _ hv, hf, hw⟩

/-! ## The chain controller -/

/-- The push phase goes on at the lowest slot from `k` up that is to be pushed, or ends; nothing else moves (R5). -/
theorem pushFrom_spec (k : Nat) :
    (pushFrom k s = s.setActivity .idle ∧ ∀ i : Slot, k ≤ i.val → (s.tile i).pushes = false)
    ∨ ∃ i : Slot, k ≤ i.val ∧ (s.tile i).pushes = true
        ∧ pushFrom k s = s.setActivity (.push i ((s.tile i).chain.pending.getD (RGB.all 0))) := by
  unfold pushFrom
  split
  · rename_i i h
    have := List.find?_some h
    simp only [Bool.and_eq_true, decide_eq_true_eq] at this
    exact .inr ⟨i, this.1, this.2, rfl⟩
  · rename_i h
    refine .inl ⟨rfl, fun i hi => ?_⟩
    have := List.find?_eq_none.mp h i (mem_slots i)
    simpa [hi] using this

/-- The poll phase goes on at the lowest slot from `k` up that is not VACANT, or reaches its adopt step (R4). -/
theorem pollFrom_spec (k : Nat) :
    (pollFrom k s = adoptPhase s ∧ ∀ i : Slot, k ≤ i.val → (s.tile i).present = false)
    ∨ ∃ i : Slot, k ≤ i.val ∧ (s.tile i).present = true ∧ pollFrom k s = s.setActivity (.poll i) := by
  unfold pollFrom
  split
  · rename_i i h
    have := List.find?_some h
    simp only [Bool.and_eq_true, decide_eq_true_eq] at this
    exact .inr ⟨i, this.1, this.2, rfl⟩
  · rename_i h
    refine .inl ⟨rfl, fun i hi => ?_⟩
    have := List.find?_eq_none.mp h i (mem_slots i)
    simpa [hi] using this

/-- The failure of a tile moves its PROBE and the sweep record alone (R130, R165). -/
theorem failTile_frame (i : Slot) (why : ProbeReason) (c : Option Chan) : failTile i why c s = { s with
    tiles := (failTile i why c s).tiles, sweep := (failTile i why c s).sweep } := rfl

/-- A LOST slot with its former state recorded returns to it (R14, R16). -/
theorem returnFromLost_spec (t : Tile) (f : FormerState) (h : t.chain.former = some f) :
    returnFromLost t = { t with
      chain := { t.chain with state := f.state, former := none, answering := false }
      prot := { t.prot with lost := t.prot.lost.clear } } := by
  simp [returnFromLost, h, Tile.setChain, Tile.setProt]

/-- A miss moves the miss count, and the state, former state, answering flag and LOST condition where it makes the slot LOST
(R9, R13). -/
theorem countMiss_spec (limit : Nat) (t : Tile) :
    (countMiss limit t).chain.missCount = min 15 (t.chain.missCount + 1)
      ∧ (∀ f, t.chain.state.former = some f → limit ≤ min 15 (t.chain.missCount + 1) →
          (countMiss limit t).chain.state = .lost ∧ (countMiss limit t).chain.former = some f
            ∧ (countMiss limit t).prot.lost = ⟨true, true, true⟩)
      ∧ (min 15 (t.chain.missCount + 1) < limit → (countMiss limit t).chain.state = t.chain.state
          ∧ (countMiss limit t).prot = t.prot)
      ∧ (countMiss limit t).held = t.held ∧ (countMiss limit t).temp = t.temp ∧ (countMiss limit t).eng = t.eng
      ∧ (countMiss limit t).slew = t.slew := by
  cases h : t.chain.state.former with
  | none =>
    have e : countMiss limit t = if t.chain.state = .lost
        then { t with chain := { t.chain with missCount := min 15 (t.chain.missCount + 1), answering := false } }
        else { t with chain := { t.chain with missCount := min 15 (t.chain.missCount + 1) } } := by
      simp only [countMiss, Tile.setChain, h]
      rfl
    rw [e]
    by_cases hl : t.chain.state = .lost <;> simp [hl]
  | some f =>
    have e : countMiss limit t = if limit ≤ min 15 (t.chain.missCount + 1)
        then becomeLost f { t with chain := { t.chain with missCount := min 15 (t.chain.missCount + 1) } }
        else { t with chain := { t.chain with missCount := min 15 (t.chain.missCount + 1) } } := by
      simp only [countMiss, Tile.setChain, h]
    rw [e]
    by_cases hl : limit ≤ min 15 (t.chain.missCount + 1)
    · rw [if_pos hl]
      refine ⟨rfl, fun g hg _ => ?_, fun hn => by omega, rfl, rfl, rfl, rfl⟩
      simp only [Option.some.injEq] at hg
      subst hg
      exact ⟨rfl, rfl, rfl⟩
    · rw [if_neg hl]
      exact ⟨rfl, fun _ _ h => absurd h hl, fun _ => ⟨rfl, rfl⟩, rfl, rfl, rfl, rfl⟩

end Sys2Proof.Machine
end

