-- ==== Sys2Proof/Laws/Store.lean ====
section
/-! SUPPORT. Reading the store's areas after a write (R29, R50, R51). -/

namespace Sys2Proof.Machine

/-- The record a profile cell holds. -/
theorem profile_of_cell (st : Store) (k : Nat) (h : 1 ≤ k ∧ k ≤ 96) (r : Profile) :
    st.profile k = some r ↔ st.profiles.get ⟨k - 1, by omega⟩ = .good r := by
  unfold Store.profile
  rw [dif_pos h]
  split <;> simp_all

theorem profile_outside (st : Store) (k : Nat) (h : ¬(1 ≤ k ∧ k ≤ 96)) : st.profile k = none := by
  unfold Store.profile
  rw [dif_neg h]

/-- A write of one index changes what no other index holds. -/
theorem profile_putCell_other (st : Store) (k j : Nat) (c : ProfileCell) (hj : j ≠ k) :
    (st.putCell k c).profile j = st.profile j := by
  unfold Store.putCell
  split
  · unfold Store.profile
    split
    · rw [Table.get_put_other]
      intro e
      simp only [Fin.mk.injEq] at e
      omega
    · rfl
  · rfl

/-- A good record written at an index is what the index holds. -/
theorem profile_putCell_good (st : Store) (k : Nat) (h : 1 ≤ k ∧ k ≤ 96) (r : Profile) :
    (st.putCell k (.good r)).profile k = some r := by
  rw [profile_of_cell _ _ h, Store.putCell, dif_pos h]
  exact Table.get_put_same _ _ _

/-- An index emptied holds nothing. -/
theorem profile_putCell_empty (st : Store) (k : Nat) (h : 1 ≤ k ∧ k ≤ 96) : (st.putCell k .empty).profile k = none := by
  unfold Store.profile Store.putCell
  rw [dif_pos h, dif_pos h, Table.get_put_same]

theorem putCell_frame (st : Store) (k : Nat) (c : ProfileCell) :
    st.putCell k c = { st with profiles := (st.putCell k c).profiles } := by
  unfold Store.putCell
  split <;> rfl

/-- Positions and entry numbers correspond one to one. -/
@[simp] theorem posAt_number (x : Pos) : posAt x.number = x := by
  obtain ⟨c, r⟩ := x
  simp only [posAt, Pos.number, Pos.mk.injEq, Fin.ext_iff]
  omega

@[simp] theorem number_posAt (n : Fin 256) : (posAt n).number = n := by
  simp only [posAt, Pos.number, Fin.ext_iff]
  omega

theorem number_inj {x y : Pos} : x.number = y.number ↔ x = y :=
  ⟨fun h => by rw [← posAt_number x, h, posAt_number], fun h => by rw [h]⟩

@[simp] theorem names_cellOf (c : Option Slot) : (cellOf c).names = c := by cases c <;> rfl

/-- A map entry written, and every other as it was. -/
theorem entry_put (st : Store) (x y : Pos) (c : Option Slot) :
    ({ st with map := st.map.put x.number (cellOf c) } : Store).entry y = if y = x then c else st.entry y := by
  unfold Store.entry
  rw [Table.get_put]
  by_cases h : y = x
  · simp [h]
  · rw [if_neg (fun e => h (number_inj.mp e)), if_neg h]

/-- The inverse after a PUT-MAP (R51): the slot that leaves is UNMAPPED, the one placed stands at the position, and every other slot
keeps its place. -/
theorem inverseAfterPut_get (inv : Table (Option Pos) 64) (x : Pos) (old content : Option Slot) (i : Slot) :
    (inverseAfterPut inv x old content).get i
      = if content = some i then some x else if old = some i then none else inv.get i := by
  cases content with
  | none =>
    cases old with
    | none => simp [inverseAfterPut]
    | some m =>
      simp only [inverseAfterPut, Table.get_put, Option.some.injEq]
      by_cases h : i = m <;> simp [h, eq_comm]
  | some n =>
    cases old with
    | none =>
      simp only [inverseAfterPut, Table.get_put, Option.some.injEq]
      by_cases h : i = n <;> simp [h, eq_comm]
    | some m =>
      simp only [inverseAfterPut, Table.get_put, Option.some.injEq]
      by_cases h : i = n
      · simp [h]
      · by_cases h' : i = m
        · subst h'; simp [h, Ne.symm h]
        · simp [h, h', Ne.symm h, Ne.symm h']

end Sys2Proof.Machine
end

