-- ==== Sys2Proof/Tests/Slice0.lean ====
section
/-! SUPPORT. Tests: the well-formedness smoke, the spec's worked values, one or two steps per command, and for each statement a
state and operands that meet its hypotheses. Expected values are the spec's worked cases and tables, or hand calculation from
them; each test names its source. -/

namespace Sys2Proof.Tests

open Sys2Proof Sys2Proof.Machine

set_option Elab.async false

/-! ## Helpers -/

/-- The state a command leaves. -/
def run (c : Instr) (s : State) : State :=
  match exec c s with
  | .next t => t
  | .fault _ => s
  | .refused _ => s

/-- The part between rounds, with an empty chain and no request. -/
def quiet : State := {}

/-- Port A holds authority. -/
def heldA : State := { quiet with auth := { holder := some .A, timerA := .running 1000 } }

/-- Port A holds authority and the show is frozen under key 7. -/
def frozenA : State := { heldA with auth := { heldA.auth with key := some 7 } }

/-- RESETn is low. -/
def low : State := underReset [] quiet

/-- A port's slot is BUSY with a request. -/
def busyWith (p : Port) (n : ReqName) (s : State) : State := s.putPort p { s.port p with busy := some n }

/-- The chain controller's activity set. -/
def doing (a : Activity) (s : State) : State := s.setActivity a

/-- The profiles of tiles A, B and C of section 5.12. -/
def profA : Working := { chain := [1], luminance := some ⟨⟨3000, 9000, 1100⟩, 25⟩, thermal := ⟨80, 30, 20⟩, power := 400 }
def profB : Working := { chain := [2], luminance := some ⟨⟨2800, 9400, 1000⟩, 25⟩, thermal := ⟨80, 30, 20⟩ }
def profC : Working :=
  { chain := [3], luminance := some ⟨⟨3200, 8800, 1150⟩, 25⟩, thermal := ⟨80, 30, 20⟩, ageing := ⟨200, 100, 100⟩, href := 1000 }

/-- A newly bound ACTIVE tile. -/
def tileOf (serial : Serial) (bound : Nat) (w : Working) (hours : Nat) (teff : Int) : Tile :=
  { chain := { state := .active, serial := some serial, bound := bound, polled := true, confirmed := some ⟨0, 0, 0⟩ }
    held := .full w
    temp := { own := .value teff, fault := some false, ownValid := true, source := .source .own, role := some .primary
              lastSample := some teff, teff := some teff }
    eng := { hours := some hours, load := some 200 }
    slew := { firstSet := true } }

/-- The segment of section 5.12, at the last step of a poll phase. -/
def segment : State :=
  (((doing (.adopt 63) { quiet with showRec := { m := 3072, want := ⟨2400, 7600, 800⟩ } }).putTile 10
    (tileOf 5 1 profA 4000 45)).putTile 11 (tileOf 6 2 profB 2500 35)).putTile 12 (tileOf 7 3 profC 6000 55)

/-- The segment after its first recomputation. -/
def settled : State := run .adoptNoReply segment

/-- The segment of section 5.13: tile C has heated to 60. -/
def heated : State :=
  let t := settled.tile 12
  run .adoptNoReply (doing (.adopt 63) (settled.putTile 12 { t with temp := { t.temp with teff := some 60 } }))

/-- A tile of section 8.7 that stands at its gains: FIXED at them. -/
def steady (power load : Nat) (g : RGB Nat) : Tile :=
  { chain := { state := .active, serial := some 1, bound := 1, polled := true }
    held := .full { profA with power := power }
    eng := { load := some load }
    slew := { ga := some g, override := some .fixed, manual := g } }

/-- The four tiles of section 8.7 at one load and one M, with a budget of 1100 W and a hysteresis of 10. -/
def stage (mode : BudgetMode) (m load : Nat) (b : Budget) : State :=
  ((((doing (.adopt 63) { quiet with
      showRec := { m := m }, budget := { b with set := { budget := 1100, mode := mode, hysteresis := 10, count := 2 } } }).putTile 0
    (steady 400 load ⟨3600, 3400, 3000⟩)).putTile 1 (steady 400 load ⟨3500, 3300, 3100⟩)).putTile 2
    (steady 350 load ⟨4000, 3600, 2900⟩)).putTile 3 (steady 300 load ⟨3800, 3500, 3200⟩)

/-- One TILE record for serial 5. -/
def rec5 : Profile := { kind := .tile, serial := some 5, luminance := some ⟨⟨3000, 9000, 1100⟩, 25⟩ }

/-- The part with that record at index 1. -/
def stocked (s : State) : State := { s with store := s.store.putCell 1 (.good rec5) }

/-- A tile in a given slot state. -/
def inState (x : SlotState) (f : Option FormerState) : Tile :=
  { chain := { state := x, serial := some 5, former := f, bound := if x = .unprofiled then 0 else 1 } }

/-- A sweep of port A over slots 10..12 on all channels. -/
def sweepA : SweepRec :=
  { state := .running, issuer := some (.prog .A), params := some ⟨10, 12, ⟨true, true, true⟩⟩, cursor := some 11
    tile := some 10, tsense := some 45, hsense := some 4000, lastReached := some 10, id := 1 }

/-- The segment with that sweep at some activity. -/
def sweeping (a : Activity) : State :=
  { busyWith (.prog .A) .sweep (doing a { segment with auth := heldA.auth, showRec := { segment.showRec with m := 0 } }) with
    sweep := sweepA, token := .sweep (.prog .A) }

/-! ## Well-formedness -/

/-- An ill-formed term for each check, which the check refuses (R7, R64, R75, R203). -/
theorem test_wf_refuses :
    Instr.wf (.pollReply (some 128) false 0 0 ⟨0, 0, 0⟩) = false
      ∧ Instr.wf (.pollReply (some (-129)) false 0 0 ⟨0, 0, 0⟩) = false
      ∧ Instr.wf (.pollReply none false 16777216 0 ⟨0, 0, 0⟩) = false
      ∧ Instr.wf (.pollReply none false 0 256 ⟨0, 0, 0⟩) = false
      ∧ Instr.wf (.pollReply none false 0 0 ⟨0, 4096, 0⟩) = false
      ∧ Instr.wf (.pushReply ⟨4096, 0, 0⟩) = false ∧ Instr.wf (.senseReply .ok 4096) = false
      ∧ Instr.wf (.unknownRequestPost .service 19 []) = false := by decide

theorem test_wf_accepts :
    Instr.wf (.pollReply (some 127) true 16777215 255 ⟨4095, 4095, 4095⟩) = true
      ∧ Instr.wf (.pollReply (some (-128)) true 0 0 ⟨0, 0, 0⟩) = true ∧ Instr.wf (.pushReply ⟨4095, 0, 0⟩) = true
      ∧ Instr.wf (.senseReply .under 4095) = true ∧ Instr.wf (.unknownRequestPost .service 0 []) = true
      ∧ Instr.wf (.unknownRequestPost .service 20 []) = true := by decide

/-! ## Arithmetic and worked values -/

/-- R85, R86: 655, -492 and 410 are the spec's own roundings. R71: blocks that round down. -/
theorem test_divisions :
    divNear (1600 * 4096) 10000 = 655 ∧ divNear (-1200 * 4096) 10000 = -492 ∧ divNear (1000000 * 4096) 10000000 = 410
      ∧ divNear 5 2 = 3 ∧ divNear (-5) 2 = -3 ∧ divDown 181 4 = 45 ∧ divDown (-4) 2 = -2 ∧ divDown (-5) 2 = -3 := by decide

/-- R85: 3441 at 20 degrees above the reference, and the clamp at 4505. -/
theorem test_thermalFactor : thermalFactor 80 20 = 3441 ∧ thermalFactor 80 (-15) = 4505 := by decide

/-- R86: 3686 after 5000 hours at 200. -/
theorem test_ageingFactor : ageingFactor 200 5000 = 3686 ∧ ageingFactor 0 16777215 = 4096 := by decide

/-- Section 5.12: tile C's red capacity, and the bound of R87. -/
theorem test_capacity : capacity 3200 3113 3686 = 2189 ∧ capacity 65535 4505 4096 = 72079 := by decide

/-- R96: gain 3479, M 3072, P 2048 give 1304; all three at 4096 give 4095. -/
theorem test_coefficient : coefficient 3072 2048 4096 3479 = 1304 ∧ coefficient 4096 4096 4096 4096 = 4095 := by decide

/-- R168: count 686 at range 1 is 2744 LU. -/
theorem test_luminance : luminanceOf 686 1 = 2744 ∧ luminanceOf 4094 0 = 65504 ∧ luminanceOf 256 3 = 64 := by decide

/-- Section 8.7: slot 0's power terms. -/
theorem test_powerTerm : powerTerm 400 200 ⟨2700, 2550, 2250⟩ = 1915 ∧ powerTerm 400 255 ⟨3600, 3400, 3000⟩ = 3256 := by decide

/-- R151: a budget of 1100 W with hysteresis 10. -/
theorem test_candidate :
    (BudgetSettings.candidate ⟨1100, .below, 10, 25⟩ 12034) = 3744 ∧ BudgetSettings.threshold ⟨1100, .below, 10, 25⟩ = 9900
      ∧ BudgetSettings.candidate ⟨1100, .below, 10, 25⟩ 11000 = 4096
      ∧ BudgetSettings.candidate ⟨1100, .below, 10, 25⟩ 44001 = 1024 := by decide

/-- R71: samples 43, 44, 46, 46 at w = 2 give 45; -3 and -4 at w = 1 give -3. -/
theorem test_teffBlock :
    (takeSample 2 46 { teff := some 0, sum := 133, count := 3 }).1.teff = some 45
      ∧ (takeSample 1 (-4) { teff := some 0, sum := -3, count := 1 }).1.teff = some (-3)
      ∧ (takeSample 3 40 {}).1.teff = some 40 := by decide

/-- Section 5.12: the wall record after the first recomputation. -/
theorem test_commonWhite :
    settled.wall.minE = some ⟨2189, 7606, 980⟩ ∧ settled.wall.scales = some ⟨3735, 4099, 5017⟩ ∧ settled.wall.s = 3735
      ∧ settled.wall.target = ⟨2188, 6930, 729⟩ ∧ settled.wall.limiting = some .r
      ∧ settled.wall.limitingSlots = some ⟨12, 12, 11⟩ ∧ settled.wall.contributing = 3 ∧ settled.wall.short = 0 := by
  decide +kernel

/-- Section 5.12: capacities and coefficients. -/
theorem test_firstRecomputation :
    (settled.tile 10).eng.e = some ⟨2520, 8459, 1056⟩ ∧ (settled.tile 12).eng.fag = some ⟨3686, 3891, 3891⟩
      ∧ (settled.tile 10).chain.pending = some ⟨2667, 2516, 2120⟩ ∧ (settled.tile 11).chain.pending = some ⟨2609, 2334, 2284⟩
      ∧ (settled.tile 12).chain.pending = some ⟨3070, 2798, 2180⟩
      ∧ settled.chain.activity = .push 10 ⟨2667, 2516, 2120⟩ := by decide +kernel

/-- Section 5.13: the second recomputation, with the default slew. -/
theorem test_followOn :
    heated.wall.s = 3537 ∧ heated.wall.target = ⟨2072, 6562, 690⟩ ∧ (heated.tile 10).eng.gt = some ⟨3367, 3177, 2676⟩
      ∧ (heated.tile 10).slew.ga = some ⟨3552, 3351, 2823⟩ ∧ (heated.tile 12).slew.ga = some ⟨4094, 3727, 2903⟩
      ∧ (heated.tile 12).slew.status = some ⟨.settled, .down, .down⟩
      ∧ (heated.tile 12).chain.pending = some ⟨3070, 2795, 2177⟩ := by decide +kernel

/-- Section 6.8: steps of 64 stop at the target gain, and a step up of 4. -/
theorem test_slewStep :
    slewStep ⟨4, 64, 8⟩ 3416 3367 = (3367, .down) ∧ slewStep ⟨4, 64, 8⟩ 3544 3367 = (3480, .down)
      ∧ slewStep ⟨4, 64, 8⟩ 3367 3556 = (3371, .up) ∧ slewStep ⟨4, 4, 8⟩ 3367 3375 = (3367, .settled) := by decide

/-- Section 8.7, recomputations 2 and 3 under BELOW. -/
theorem test_budgetBelow :
    let t := run .adoptNoReply (stage .below 4096 255 { state := .clear })
    t.budget.estimate = 12034 ∧ t.budget.state = .tripped ∧ t.budget.sb = 3744 ∧ t.budget.trips = 1
      ∧ (t.tile 0).chain.pending = some ⟨3290, 3107, 2742⟩
      ∧ (run .adoptNoReply (stage .below 4096 240 t.budget)).budget.sb = 3744
      ∧ (run .adoptNoReply (stage .below 4096 240 t.budget)).budget.candidate = 3978 := by decide +kernel

/-- Section 8.7, the other modes. -/
theorem test_budgetModes :
    (run .adoptNoReply (stage .next 4096 240 { state := .tripped, sb := 3744, active := true, latched := true })).budget.sb = 3978
      ∧ (run .adoptNoReply (stage .count 4096 240
          { state := .tripped, sb := 3744, hold := 2, active := true, latched := true })).budget.hold = 1
      ∧ (run .adoptNoReply (stage .count 4096 220
          { state := .tripped, sb := 3744, hold := 1, active := true, latched := true })).budget.state = .clear
      ∧ (run .adoptNoReply (stage .report 4096 255 { state := .clear })).budget.sb = 4096 := by decide +kernel

/-! ## The buses -/

/-- R6, R203: the check value of the nine ASCII digits is 29B1H. -/
theorem test_checkValue : checkValue [0x31, 0x32, 0x33, 0x34, 0x35, 0x36, 0x37, 0x38, 0x39] = 0x29B1 := by decide +kernel

/-- R191, R203: a SET-NOTICE, a READ, a POST cut short, and an unknown kind byte. -/
theorem test_spiCommand :
    spiCommand .service [0xA3, 19, 0, 1, 0x3F] = .setNotice .service [0x3F]
      ∧ spiCommand (.prog .A) [0xA2, 5, 0, 96] = .read (.prog .A) 5 0 96
      ∧ spiCommand (.prog .B) [0xA3, 1, 0, 1] = .discardedTransaction (.prog .B)
      ∧ spiCommand .service [0xA3, 20, 0, 0] = .unknownRequestPost .service 20 []
      ∧ spiCommand .service [0x00] = .discardedTransaction .service := by decide +kernel

/-- R206: a reply to POLL 2 with its check value is the command, and with a flipped bit it is none. -/
theorem test_replyCommand :
    replyCommand (.poll 2) (sealed [2, 2, 0xFB, 0, 0, 1, 0, 200, 0x0F, 0xFF, 0, 1, 0, 2])
        = some (.pollReply (some (-5)) false 256 200 ⟨4095, 1, 2⟩)
      ∧ replyCommand (.sense 2 .r 1) (sealed [2, 6, 3, 0x02, 0xAE]) = some (.senseReply .other 686)
      ∧ replyCommand (.poll 3) (sealed [2, 2, 0xFB, 0, 0, 1, 0, 200, 0x0F, 0xFF, 0, 1, 0, 2]) = none
      ∧ replyCommand (.poll 2) [2, 2, 0xFB, 0, 0, 1, 0, 200, 0x0F, 0xFF, 0, 1, 0, 2, 0, 0] = none := by decide +kernel

/-- R7, R166: the windows of ENUM and of SENSE at ranges 0 to 3. -/
theorem test_replyWindow :
    replyWindow (.enum 0) = some 500 ∧ replyWindow (.sense 0 .r 0) = some 15000 ∧ replyWindow (.sense 0 .r 1) = some 30000
      ∧ replyWindow (.sense 0 .r 2) = some 90000 ∧ replyWindow (.sense 0 .r 3) = some 330000 := by decide

/-! ## One step of each command -/

/-- R30, R31: a write cut off leaves the old content, the new one or none, and a loss is counted. -/
theorem test_hardReset :
    let s : State := { stocked quiet with store := { (stocked quiet).store with write := some ⟨.dropProfile 1, some .service⟩ } }
    (run (.hardReset .powerUp []) s).store.profile 1 = some rec5
      ∧ (run (.hardReset .powerUp [.new]) s).store.profile 1 = none
      ∧ (run (.hardReset .powerUp [.failing]) s).store.lost = [1]
      ∧ ((run (.hardReset .powerUp [.failing]) s).port .service).pending.store = true := by decide +kernel

/-- R191: while RESETn is low the attention lines are high and the part ignores its ports. -/
theorem test_resetLow :
    (run (.hardReset .resetnLow []) quiet).attentionLow .service = false
      ∧ (run .resetnRelease low).attentionLow .service = true ∧ (run .resetnRelease low).chain.activity = .enum 0 := by
  decide +kernel

/-- R197: STATUS after reset returns START in its pending set, and empties it. -/
theorem test_status :
    ((run (.status .service) State.reset).port .service).response = [0, 0, 0, 0, 0, 0, 0, 1, 63]
      ∧ ((run (.status .service) State.reset).port .service).pending = {} := by decide +kernel

/-- R202: a slot above 63 is RANGE, an empty profile index is EMPTY, and the map entry of an erased store is EMPTY. -/
theorem test_read :
    ((run (.read .service 1 0 64) quiet).port .service).response = [1, 0, 0]
      ∧ ((run (.read .service 5 0 96) quiet).port .service).response = [2, 0, 0]
      ∧ ((run (.read .service 6 15 15) quiet).port .service).response = [0, 0, 5, 0, 15, 15, 255, 0] := by decide +kernel

/-- R177, R205: the authority record holds the show record; presence bits for standby, both times and the ambient. -/
theorem test_read_authority :
    ((run (.read .service 4 0 0) heldA).port .service).response
      = [0, 0, 26, 0x02, 1, 0, 1, 0x03, 0xE8, 0, 0, 0, 0, 0, 0, 0, 8, 0x4E, 0x1B, 0xF0, 2, 0xD2, 8, 0, 0, 20, 4, 0, 0] := by
  decide +kernel

/-- R196: the result block of a refused SET-SLEW, NOAUTH from a port that does not hold authority. -/
theorem test_result :
    ((run (.result (.prog .B)) (run (.setSlew (.prog .B) []) heldA)).port (.prog .B)).response = [12, 3, 5, 0, 0] := by
  decide +kernel

/-- R181: an ABORT of a waiting CLAIM removes the standby. -/
theorem test_abort :
    let s := run (.claim (.prog .B) [1]) heldA
    s.auth.standby = some .B ∧ (run (.abort (.prog .B)) s).auth.standby = none
      ∧ ((run (.abort (.prog .B)) s).port (.prog .B)).busy = none := by decide +kernel

/-- R178, R191: a discarded transaction is traffic. -/
theorem test_discarded : (run (.discardedTransaction (.prog .B)) quiet).auth.timerB = .running 1000 := by decide +kernel

/-- R180: CLAIM with wait 0 is HELD while the other port holds authority. -/
theorem test_claim :
    ((run (.claim (.prog .B) [0]) heldA).port (.prog .B)).result = some ⟨.claim, .refused, some .held, .nothing⟩
      ∧ (run (.claim (.prog .B) [0]) quiet).auth.holder = some .B := by decide +kernel

/-- R182: RELEASE passes authority to the standby. -/
theorem test_release :
    (run (.release (.prog .A) []) (run (.claim (.prog .B) [1]) heldA)).auth.holder = some .B
      ∧ (run (.release (.prog .A) []) heldA).auth.holder = none := by decide +kernel

/-- R184: M above 4096 is held as 4096, a Want of 0 as 1, and a timeout of 1 as 5. -/
theorem test_setShow :
    (run (.setShow (.prog .A) [0x23, 0xFF, 0xFF, 0, 0, 0, 5, 0, 6, 0, 0, 0, 0, 1]) heldA).showRec
      = ⟨4096, ⟨1, 5, 6⟩, 2048, none, 5⟩ := by decide +kernel

/-- R184: a block that both sets and clears the ambient is RANGE. -/
theorem test_setShow_range :
    ((run (.setShow (.prog .A) [0x18, 0, 0, 0, 0, 0, 0, 0, 0, 0, 0, 0, 0, 0]) heldA).port (.prog .A)).result
      = some ⟨.setShow, .refused, some .range, .nothing⟩ := by decide +kernel

/-- R186, R187: FREEZE takes the key, and THAW needs it. -/
theorem test_freeze_thaw :
    (run (.freeze (.prog .A) [0, 0, 0, 7]) heldA).auth.key = some 7
      ∧ (run (.thaw (.prog .A) [0, 0, 0, 7]) frozenA).auth.key = none
      ∧ ((run (.thaw (.prog .A) [0, 0, 0, 8]) frozenA).port (.prog .A)).result
          = some ⟨.thaw, .refused, some .badKey, .nothing⟩ := by decide +kernel

/-- R148: a budget of 1 W is held as 100 W, and the unit leaves OFF. -/
theorem test_setBudget :
    (run (.setBudget (.prog .A) [1, 0, 0, 1, 0, 0, 0, 0, 0]) heldA).budget.set.budget = 100
      ∧ (run (.setBudget (.prog .A) [1, 0, 0, 1, 0, 0, 0, 0, 0]) heldA).budget.state = .clear := by decide +kernel

/-- R35: PUT-PROFILE of a TILE record with index 0 takes the lowest empty index. -/
theorem test_putProfile :
    (run (.putProfile .service ([0, 1, 0, 1, 0, 0, 0, 0, 0, 0, 9] ++ List.replicate 39 0)) (stocked quiet)).store.write
      = some ⟨.putProfile 2 { kind := .tile, serial := some 9 }, some .service⟩ := by decide +kernel

/-- R38: DROP-PROFILE of an empty index is NOTFOUND. -/
theorem test_dropProfile :
    ((run (.dropProfile .service [2]) (stocked quiet)).port .service).result
        = some ⟨.dropProfile, .refused, some .notFound, .nothing⟩
      ∧ (run (.dropProfile .service [1]) (stocked quiet)).store.write = some ⟨.dropProfile 1, some .service⟩ := by decide +kernel

/-- R51, R54: PUT-MAP places slot 5 at column 2, row 1, and no second position takes it. -/
theorem test_putMap :
    let s := run .storeWriteComplete (run (.putMap .service [2, 1, 5]) quiet)
    s.inverse.get 5 = some ⟨2, 1⟩ ∧ s.store.entry ⟨2, 1⟩ = some 5
      ∧ ((run (.putMap .service [1, 2, 5]) s).port .service).result = some ⟨.putMap, .refused, some .inUse, .nothing⟩ := by
  decide +kernel

/-- R56: CLEAR-MAP empties every entry and counts them. -/
theorem test_clearMap :
    let s := run .storeWriteComplete (run (.clearMap .service []) (run .storeWriteComplete (run (.putMap .service [2, 1, 5]) quiet)))
    s.inverse.get 5 = none ∧ (s.port .service).result = some ⟨.clearMap, .done, none, .clearMap 1⟩ := by decide +kernel

/-- Section 6.9: tile B is taken into FIXED at 3000 and is re-formed at once. -/
theorem test_setTrack :
    let t := (run (.setTrack .service [11, 0, 1, 0x0B, 0xB8, 0x0B, 0xB8, 0x0B, 0xB8]) (doing .idle settled)).tile 11
    t.slew.ga = some ⟨3000, 3000, 3000⟩ ∧ t.chain.pending = some ⟨2250, 2250, 2250⟩ ∧ t.eng.formedBy = some .reform := by
  decide +kernel

/-- R120: a step of 0 is held as 1, a step above 512 as 512. -/
theorem test_setSlew : (run (.setSlew .service [3, 0, 0, 0, 2, 1, 0, 0]) quiet).slewSet = ⟨1, 512, 8⟩ := by decide +kernel

/-- R76: a HOT limit at the trip limit is held one below it. -/
theorem test_setTemp :
    (run (.setTemp .service [6, 0, 0, 0, 0, 100, 0, 60, 0, 0]) quiet).tempSet = ⟨3, 59, 60, 5⟩ := by decide +kernel

/-- R136, R137: SENSOR set to LATCHED on a slot whose SENSOR is ACTIVE puts its HOLD in force. -/
theorem test_setProtect :
    let s := quiet.putTile 0 { inState .active none with prot := { sensor := ⟨true, true, true⟩ } }
    ((run (.setProtect .service ([0x10, 0] ++ List.replicate 18 0)) s).tile 0).prot.sensorAct = ⟨.hold, none, none⟩ := by
  decide +kernel

/-- R141: CLEAR-FAULTS clears a latched flag whose active flag is clear, and no other. -/
theorem test_clearFaults :
    let s := quiet.putTile 0 { inState .active none with prot := { hot := ⟨false, false, true⟩, sensor := ⟨true, true, true⟩ } }
    ((run (.clearFaults .service [0]) s).tile 0).prot.hot.latched = false
      ∧ ((run (.clearFaults .service [0]) s).tile 0).prot.sensor.latched = true
      ∧ ((run (.clearFaults .service [1]) s).port .service).result = some ⟨.clearFaults, .refused, some .notFound, .nothing⟩ := by
  decide +kernel

/-- R162: SWEEP takes the token, and is LIVE while M is above 0. -/
theorem test_sweep :
    (run (.sweep .service [0, 63, 7]) quiet).token = .sweep .service
      ∧ ((run (.sweep .service [0, 63, 7]) segment).port .service).result = some ⟨.sweep, .refused, some .live, .nothing⟩
      ∧ ((run (.sweep .service [1, 0, 7]) quiet).port .service).result = some ⟨.sweep, .refused, some .range, .nothing⟩ := by
  decide +kernel

/-- R20, R199: RELEARN sends ENUM 0 with no round in progress, and waits in one. -/
theorem test_relearn :
    (run (.relearn .service []) quiet).chain.activity = .enum 0
      ∧ (run (.relearn .service []) segment).chain.activity = .adopt 63 := by decide +kernel

/-- R189: RESTART-CHAIN empties the wall. -/
theorem test_restartChain :
    let t := run (.restartChain .service []) settled
    (t.tile 10).chain.state = .vacant ∧ t.wall.number = 1 ∧ t.wall.s = 4096
      ∧ (t.port .service).result = some ⟨.restartChain, .done, none, .restart none 3⟩ := by decide +kernel

/-- R189, R203: the cancelled job in the order SWEEP, RELEARN, none. -/
theorem test_restartChain_job :
    ((run (.result .service) (run (.restartChain .service []) (sweeping .idle))).port .service).response
        = [18, 1, 0, 0, 2, 0, 3]
      ∧ ((run (.result .service) (run (.restartChain .service []) quiet)).port .service).response = [18, 1, 0, 0, 2, 2, 0] := by
  decide +kernel

/-- R201: JOB lies in the new mask, and drives the line low. -/
theorem test_setNotice :
    (run (.setNotice .service [2]) quiet).attentionLow .service = true
      ∧ (run (.setNotice .service [1]) quiet).attentionLow .service = false := by decide +kernel

/-- R4: a round polls the lowest slot, and a round on an empty chain completes at once. -/
theorem test_roundStart :
    (run .roundStart (doing .idle settled)).chain.activity = .poll 10 ∧ (run .roundStart quiet).wall.number = 1
      ∧ (run .roundStart quiet).chain.activity = .idle := by decide +kernel

/-- R20: a waiting RELEARN sends ENUM 0. -/
theorem test_relearnEnumerationStart :
    (run .relearnEnumerationStart { quiet with token := .relearn none }).chain.activity = .enum 0 := by decide +kernel

/-- R126, R134: a reading at the trip limit blanks the tile at once; the echo becomes the confirmed coefficients. -/
theorem test_pollReply :
    let t := run (.pollReply (some 85) false 10 20 ⟨1, 2, 3⟩) (doing (.poll 10) settled)
    (t.tile 10).prot.overheat = ⟨true, true, true⟩ ∧ (t.tile 10).prot.p = 0 ∧ (t.tile 10).chain.pending = some ⟨0, 0, 0⟩
      ∧ (t.tile 10).chain.confirmed = some ⟨1, 2, 3⟩ ∧ t.chain.activity = .poll 11 := by decide +kernel

/-- R69, R70: with no source left SENSOR is raised, and Teff is held. -/
theorem test_pollReply_none :
    let t := run (.pollReply none true 10 20 ⟨1, 2, 3⟩) (doing (.poll 10) settled)
    (t.tile 10).prot.sensor.active = true ∧ (t.tile 10).temp.teff = some 45 ∧ (t.tile 10).temp.source = .none := by decide +kernel

/-- R9, R13: the third miss makes a slot LOST. -/
theorem test_pollMiss :
    let s := doing (.poll 10) (settled.putTile 10 { settled.tile 10 with chain := { (settled.tile 10).chain with missCount := 2 } })
    ((run .pollMiss s).tile 10).chain.state = .lost ∧ ((run .pollMiss s).tile 10).chain.former = some .active
      ∧ ((run .pollMiss s).port .service).pending.tile = true := by decide +kernel

/-- R5, R11: the echo of a PUSH is confirmed, and the next slot is pushed. -/
theorem test_pushReply :
    ((run (.pushReply ⟨2667, 2516, 2120⟩) settled).tile 10).chain.confirmed = some ⟨2667, 2516, 2120⟩
      ∧ (run (.pushReply ⟨2667, 2516, 2120⟩) settled).chain.activity = .push 11 ⟨2609, 2334, 2284⟩ := by decide +kernel

/-- R11: a PUSH with no reply is a miss. -/
theorem test_pushMiss : ((run .pushMiss settled).tile 10).chain.missCount = 1 := by decide +kernel

/-- R15: an ADOPT reply with the slot's serial returns it, and another serial replaces the tile. -/
theorem test_adoptReply :
    let s := doing (.adopt 0) (quiet.putTile 0 (inState .lost (some .unprofiled)))
    ((run (.adoptReply 5) s).tile 0).chain.state = .unprofiled ∧ ((run (.adoptReply 6) s).tile 0).chain.serial = some 6
      ∧ ((run (.adoptReply 6) s).tile 0).chain.reason = some .noProfile := by decide +kernel

/-- R9: an ADOPT with no reply counts no miss. -/
theorem test_adoptNoReply :
    ((run .adoptNoReply (doing (.adopt 0) (quiet.putTile 0 (inState .lost (some .active))))).tile 0).chain.missCount = 0 := by
  decide +kernel

/-- R20: ENUM 0 answered brings slot 0 into JOINING, and ENUM 1 follows. -/
theorem test_enumReply :
    ((run (.enumReply 5) State.reset).tile 0).chain.state = .joining
      ∧ (run (.enumReply 5) State.reset).chain.activity = .enum 1
      ∧ (run (.enumReply 5) (doing (.enum 64) State.reset)).chain.chainLong = true := by decide +kernel

/-- R19, R22: an UNPROFILED slot where another tile answers under an ABORT has changed, though it ends UNPROFILED. -/
theorem test_enumReply_abort :
    let s := doing (.enum 0) (run (.abort .service) (run (.relearn .service []) quiet))
    let t := run (.enumReply 6) (s.putTile 0 (inState .unprofiled none))
    (t.tile 0).chain.state = .unprofiled ∧ (t.tile 0).chain.serial = some 6 ∧ (t.port (.prog .A)).pending.tile = true := by
  decide +kernel

/-- R21: the enumeration ends, and the JOINING slots are bound. -/
theorem test_enumNoReply :
    let t := run .enumNoReply (run (.enumReply 5) (stocked State.reset))
    (t.tile 0).chain.bound = 1 ∧ t.token = .free ∧ t.chain.tileCount = 1 ∧ t.chain.startNow = true := by decide +kernel

/-- R166: the settle wait follows a PATCH reply. -/
theorem test_patchReply : (run .patchReply (sweeping (.patch 10 .r))).chain.activity = .settle 10 .r := by decide +kernel

/-- R166: a PATCH with no reply fails the channel NOREPLY, and PATCH OFF follows. -/
theorem test_patchMiss :
    (run .patchMiss (sweeping (.patch 10 .r))).chain.activity = .patchOff 10 .r 0 (.failed .noReply)
      ∧ ((run .patchMiss (sweeping (.patchOff 10 .r 0 (.failed .under)))).tile 10).prot.probeReason = some .under := by decide +kernel

/-- R166: SENSE at range 0 follows the settle time. -/
theorem test_settleWaitEnd : (run .settleWaitEnd (sweeping (.settle 10 .r))).chain.activity = .sense 10 .r 0 := by decide +kernel

/-- R167, R168: 255 at range 0 climbs, 686 at range 1 is accepted, 4095 at range 1 is UNSTABLE. -/
theorem test_senseReply :
    (run (.senseReply .ok 255) (sweeping (.sense 10 .r 0))).chain.activity = .sense 10 .r 1
      ∧ (run (.senseReply .under 686) (sweeping (.sense 10 .r 1))).sweep.readings.r = some 2744
      ∧ (run (.senseReply .over 4095) (sweeping (.sense 10 .r 1))).chain.activity = .patchOff 10 .r 1 (.failed .unstable) := by
  decide +kernel

/-- R167: a SENSE with no reply fails the channel NOREPLY and is a miss. -/
theorem test_senseMiss :
    (run .senseMiss (sweeping (.sense 10 .g 2))).chain.activity = .patchOff 10 .g 2 (.failed .noReply)
      ∧ ((run .senseMiss (sweeping (.sense 10 .g 2))).tile 10).chain.missCount = 1 := by decide +kernel

/-- R45, R46: a record that arrives binds the slot that waits for its serial. -/
theorem test_storeWriteComplete :
    let s : State := { quiet.putTile 0 (inState .unprofiled none) with
      store := { write := some ⟨.putProfile 1 rec5, some .service⟩ } }
    let t := run .storeWriteComplete s
    (t.tile 0).chain.state = .joining ∧ (t.tile 0).chain.bound = 1 ∧ t.store.profile 1 = some rec5
      ∧ (t.port .service).result = some ⟨.putProfile, .done, none, .putProfile 1 (some 0)⟩ := by decide +kernel

/-- R179: the holder's expiry is a lapse. -/
theorem test_livenessTimerExpiry :
    (run (.livenessTimerExpiry .A) heldA).auth.lastChange = .lapse ∧ (run (.livenessTimerExpiry .A) heldA).auth.holder = none := by
  decide +kernel

/-- R132: a retry timer's expiry releases the action, whatever the condition. -/
theorem test_retryTimerExpiry :
    let s := quiet.putTile 0 { inState .active none with
      prot := { hot := ⟨true, true, true⟩, hotAct := ⟨.dim, some 2048, some 1⟩, p := 2048 } }
    ((run (.retryTimerExpiry 0 .hot) s).tile 0).prot.p = 4096 ∧ ((run (.retryTimerExpiry 0 .hot) s).tile 0).prot.hot.cond = true := by
  decide +kernel

/-- R194: an unknown request is REFUSED RANGE even while frozen. -/
theorem test_unknownRequestPost :
    ((run (.unknownRequestPost (.prog .B) 0 []) frozenA).port (.prog .B)).result
      = some ⟨.unnamed 0, .refused, some .range, .nothing⟩ := by decide +kernel

/-! ## The hypotheses of the statements -/

/-- Port A holds authority over the settled segment, between rounds. -/
def segA : State := { doing .idle settled with auth := heldA.auth }

/-- A waiting standby at port B. -/
def waitingB : State := { busyWith (.prog .B) .claim heldA with auth := { heldA.auth with standby := some .B } }

/-- One tile that is driven, with a DIM action in force. -/
def lit : State :=
  quiet.putTile 0 { steady 400 200 ⟨3600, 3400, 3000⟩ with
    prot := { hot := ⟨true, true, true⟩, hotAct := ⟨.dim, some 2048, some 10000⟩, p := 2048 } }

theorem lit_tile (i : Slot) : lit.tile i = if i = 0 then lit.tile 0 else {} := by
  revert i; decide +kernel

theorem hyp_StepTakesTheFrontCommand :
    ({ quiet with pending := [.roundStart, .pollMiss] } : State).pending = .roundStart :: [.pollMiss] := rfl

theorem hyp_HardResetRestoresEveryBlock :
    quiet.store.write = none ∧ (stocked quiet).store.write = none ∧ (stocked quiet).store.profile 1 = some rec5 := by
  decide +kernel

theorem hyp_ResetnReleaseVerifiesAndBegins : low.inReset = true := rfl

theorem hyp_ChipSelectIsIgnoredInReset : transactionOn (.abort .service) = some .service ∧ low.inReset = true := ⟨rfl, rfl⟩

theorem hyp_TrafficRestartsTheLivenessTimer :
    Instr.wf (.unknownRequestPost (.prog .A) 0 []) = true
      ∧ transactionOn (.unknownRequestPost (.prog .A) 0 []) = some (.prog .A) ∧ quiet.inReset = false := by decide +kernel

/-- Also for STATUS, RESULT and a discarded transaction. -/
theorem hyp_ReadAnswersAndChangesNothing :
    quiet.inReset = false ∧ (0 : Byte).toNat * 256 + (63 : Byte).toNat < 64 ∧ 64 ≤ (0 : Byte).toNat * 256 + (64 : Byte).toNat
      ∧ 96 < (0 : Byte).toNat * 256 + (97 : Byte).toNat ∧ quiet.store.profile 96 = none ∧ quiet.store.profile 1 = none
      ∧ (stocked quiet).store.profile 1 = some rec5 ∧ (9 : Byte).toNat > 8 ∧ (15 : Byte).toNat < 16
      ∧ 16 ≤ (16 : Byte).toNat ∧ (0 : Byte).toNat * 256 + (63 : Byte).toNat = (63 : Slot).val
      ∧ (15 : Byte).toNat = (⟨15, 15⟩ : Pos).col.val ∧ quiet.store.entry ⟨15, 15⟩ = none
      ∧ ({ quiet with store := { map := quiet.store.map.put 0 (.slot 5) } } : State).store.entry ⟨0, 0⟩ = some 5 := by
  decide +kernel

theorem hyp_ResultAndDiscardedChangeNothing :
    (quiet.port .service).result = none
      ∧ ((run (.setSlew (.prog .B) []) heldA).port (.prog .B)).result = some ⟨.setSlew, .refused, some .noAuth, .nothing⟩ := by
  decide +kernel

theorem hyp_AbortFollowsTheRequestInProgress :
    (quiet.port .service).busy = none
      ∧ ((quiet.putPort .service { busy := some .putMap, abortRequested := true }).port .service).abortRequested = true
      ∧ ((busyWith .service .putMap quiet).port .service).busy = some .putMap
      ∧ (waitingB.port (.prog .B)).busy = some .claim ∧ (waitingB.port (.prog .B)).abortRequested = false
      ∧ ((run (.relearn .service []) segment).port .service).busy = some .relearn
      ∧ (run (.relearn .service []) segment).token = .relearn (some .service)
      ∧ (run (.relearn .service []) segment).chain.activity = .adopt 63
      ∧ (run (.relearn .service []) quiet).chain.activity = .enum 0 := by decide +kernel

theorem hyp_AbortOfASweep (a : Activity) :
    (sweeping a).inReset = false ∧ ((sweeping a).port (.prog .A)).busy = some .sweep
      ∧ ((sweeping a).port (.prog .A)).abortRequested = false ∧ (sweeping a).sweep.issuer = some (.prog .A)
      ∧ (sweeping a).sweep.state ≠ .none ∧ (sweeping a).chain.windDown = false ∧ (sweeping a).chain.activity = a
      ∧ Activity.probing .idle = false ∧ Activity.probing (.settle 10 .r) = true :=
  ⟨rfl, rfl, rfl, rfl, nofun, rfl, rfl, rfl, rfl⟩

theorem hyp_BusySlotDiscardsThePost :
    (postOfName .claim (.prog .B) [1]).wf = true ∧ waitingB.inReset = false ∧ (waitingB.port (.prog .B)).busy ≠ none := by
  decide +kernel

theorem hyp_RightsOfThePorts :
    heldA.auth.holder = some .A ∧ heldA.auth.holder ≠ some .B ∧ heldA.auth.key = none ∧ heldA.token = .free
      ∧ frozenA.auth.holder = some .A ∧ frozenA.auth.key ≠ none ∧ quiet.auth.holder ≠ some .A := by decide +kernel

theorem hyp_ModalCheckProtectsTheToken :
    heldA.auth.key = none ∧ heldA.auth.holder = some .A
      ∧ ({ heldA with token := .relearn none } : State).token = .relearn none
      ∧ ({ heldA with token := .sweep .service } : State).token = .sweep .service
      ∧ (sweeping .idle).token = .sweep (.prog .A) ∧ (sweeping .idle).auth.holder = some .A := by decide +kernel

theorem hyp_RefusedRequestTouchesOnlyItsPort :
    SlotFree (.prog .B) heldA ∧ admission .setSlew (.prog .B) heldA = some .noAuth
      ∧ SlotFree .service frozenA ∧ admission .restartChain .service frozenA = some .frozen
      ∧ SlotFree .service State.reset ∧ admission .sweep .service State.reset = some .modal :=
  ⟨⟨rfl, rfl⟩, rfl, ⟨rfl, rfl⟩, rfl, ⟨rfl, rfl⟩, rfl⟩

theorem hyp_UnreadablePostsAreRefusedRange :
    Accepts .setSlew .service quiet ∧ ([0, 0, 0, 0, 0, 0, 0] : List Byte).length ≠ ReqName.blockLength .setSlew
      ∧ (0 : Byte).toNat = 0 ∧ 19 < (20 : Byte).toNat ∧ SlotFree .service quiet :=
  ⟨⟨⟨rfl, rfl⟩, rfl⟩, by decide, by decide, by decide, ⟨rfl, rfl⟩⟩

theorem hyp_SetNoticeSetsItsOwnMask : SlotFree .service quiet ∧ (63 : Byte).toNat < 64 := ⟨⟨rfl, rfl⟩, by decide⟩

theorem hyp_ClaimIsAnsweredFromTheAuthorityState :
    SlotFree (.prog .B) quiet ∧ quiet.auth.holder = none ∧ SlotFree (.prog .A) heldA ∧ heldA.auth.holder = some .A
      ∧ SlotFree (.prog .B) heldA ∧ heldA.auth.holder = some (otherProg .B) ∧ (0 : Byte).toNat ≤ 1 ∧ (1 : Byte).toNat ≤ 1 :=
  ⟨⟨rfl, rfl⟩, rfl, ⟨rfl, rfl⟩, rfl, ⟨rfl, rfl⟩, rfl, by decide, by decide⟩

theorem hyp_ReleasePassesOrVacatesAuthority :
    SlotFree (.prog .A) heldA ∧ heldA.auth.standby = none ∧ SlotFree (.prog .A) waitingB ∧ waitingB.auth.holder = some .A
      ∧ waitingB.auth.standby = some (otherProg .A) := ⟨⟨rfl, rfl⟩, rfl, ⟨rfl, rfl⟩, rfl, rfl⟩

theorem hyp_LivenessExpiryIsALapseOfTheHolder :
    heldA.auth.timer .A = .running 1000 ∧ heldA.auth.holder = some .A ∧ heldA.auth.standby = none
      ∧ waitingB.auth.timer .A = .running 1000 ∧ waitingB.auth.standby = some (otherProg .A)
      ∧ ({ heldA.auth with timerB := .running 0 } : Authority).timer .B = .running 0 ∧ heldA.auth.holder ≠ some .B := by
  decide +kernel

theorem hyp_SetShowHoldsItsSettings :
    Accepts .setShow (.prog .A) heldA
      ∧ readShow [0x2A, 0, 0, 0, 0, 0, 5, 0, 6, 0, 0, 0xFF, 0, 255] = some ⟨none, some ⟨0, 5, 6⟩, none, .set (-256), some 255⟩
      ∧ readShow [0x14, 0, 0, 0, 0, 0, 0, 0, 0, 0xFF, 0, 0, 0, 0] = some ⟨none, none, some 65280, .clear, none⟩
      ∧ readShow [0, 0, 0, 0, 0, 0, 0, 0, 0, 0, 0, 0, 0, 0] = some ⟨none, none, none, .keep, none⟩ :=
  ⟨⟨⟨rfl, rfl⟩, rfl⟩, by decide +kernel, by decide +kernel, by decide +kernel⟩

theorem hyp_SetShowOfMReformsTheWall :
    Accepts .setShow (.prog .A) segA
      ∧ readShow [1, 0xFF, 0xFF, 0, 0, 0, 0, 0, 0, 0, 0, 0, 0, 0] = some ⟨some 65535, none, none, .keep, none⟩
      ∧ readShow [1, 0, 0, 0, 0, 0, 0, 0, 0, 0, 0, 0, 0, 0] = some ⟨some 0, none, none, .keep, none⟩
      ∧ min 4096 65535 ≠ segA.showRec.m ∧ min 4096 0 ≠ segA.showRec.m
      ∧ (segA.tile 10).chain.state = .active ∧ (segA.tile 10).slew.ga = some ⟨3556, 3355, 2827⟩
      ∧ (segment.tile 10).chain.state = .active ∧ (segment.tile 10).slew.ga = none
      ∧ (segA.tile 0).chain.state = .vacant
      ∧ (quiet.putTile 0 (inState .unprofiled none)).tile 0 = inState .unprofiled none
      ∧ (sweeping .idle).sweep.state ≠ .none ∧ (sweeping .idle).sweep.issuer = some (.prog .A) :=
  ⟨⟨⟨rfl, rfl⟩, rfl⟩, by decide +kernel⟩

theorem hyp_FreezeTakesTheKey :
    Accepts .freeze (.prog .A) heldA ∧ Accepts .freeze (.prog .A) frozenA ∧ ([0, 0, 0, 7] : List Byte).length = 4
      ∧ (7 : Key) ≠ 0 ∧ (0 : Key).toNat = u32At [0, 0, 0, 0] 0 ∧ (7 : Key).toNat = u32At [0, 0, 0, 7] 0 ∧ heldA.auth.key = none ∧ frozenA.auth.key = some 7
      ∧ (8 : Key).toNat = u32At [0, 0, 0, 8] 0 ∧ (7 : Key) ≠ 8 :=
  ⟨⟨⟨rfl, rfl⟩, rfl⟩, ⟨⟨rfl, rfl⟩, rfl⟩, by decide +kernel⟩

theorem hyp_ThawLiftsTheFreezeWithItsKey :
    SlotFree .service frozenA ∧ SlotFree (.prog .B) frozenA ∧ SlotFree (.prog .A) frozenA ∧ SlotFree (.prog .A) heldA
      ∧ frozenA.auth.holder = some .A ∧ frozenA.auth.holder ≠ some .B ∧ frozenA.auth.key = some 7 ∧ heldA.auth.key = none
      ∧ (0 : Key).toNat = u32At [0, 0, 0, 0] 0 ∧ (7 : Key).toNat = u32At [0, 0, 0, 7] 0 ∧ (7 : Key) ≠ 8 :=
  ⟨⟨rfl, rfl⟩, ⟨rfl, rfl⟩, ⟨rfl, rfl⟩, ⟨rfl, rfl⟩, by decide +kernel⟩

theorem hyp_SetSlewHoldsItsSettings : Accepts .setSlew .service quiet ∧ (List.replicate 8 (255 : Byte)).length = 8 :=
  ⟨⟨⟨rfl, rfl⟩, rfl⟩, by decide⟩

theorem hyp_SetTempHoldsItsSettings :
    Accepts .setTemp (.prog .A) heldA ∧ ([6, 0, 0, 0, 0, 100, 0, 60, 0, 0] : List Byte).length = 10 :=
  ⟨⟨⟨rfl, rfl⟩, rfl⟩, by decide⟩

theorem hyp_SetProtectBringsSlotsIntoLine :
    Accepts .setProtect .service lit ∧ (readProtect ([0x11, 0] ++ List.replicate 18 0)).isSome = true
      ∧ (readProtect ([0x11, 0, 3] ++ List.replicate 5 0 ++ [2] ++ List.replicate 11 0)).isSome = true
      ∧ (readProtect ([0, 1] ++ List.replicate 12 0 ++ [3] ++ List.replicate 5 0)).isSome = true
      ∧ (lit.tile 0).prot.hotAct.kind ≠ .none ∧ lit.protSet.hot.mode = .retry ∧ lit.protSet.shortReport = true :=
  ⟨⟨⟨rfl, rfl⟩, rfl⟩, by decide +kernel⟩

theorem hyp_SetBudgetActsAtOnce :
    Accepts .setBudget (.prog .A) heldA
      ∧ readBudget [15, 0, 0, 0, 3, 0, 0, 255, 255] = some ⟨some 0, some .report, some 0, some 65535⟩
      ∧ readBudget [1, 0, 0, 99, 0, 0, 0, 0, 0] = some ⟨some 99, none, none, none⟩
      ∧ readBudget [4, 0, 0, 0, 0, 0, 51, 0, 0] = some ⟨none, none, some 51, none⟩ :=
  ⟨⟨⟨rfl, rfl⟩, rfl⟩, by decide +kernel⟩

theorem hyp_SetTrackSetsOneSlot :
    Accepts .setTrack .service segA ∧ readTrack [10, 0, 1, 0xFF, 0, 0, 0, 0, 1] = some ⟨10, .mode .fixed, some ⟨65280, 0, 1⟩⟩
      ∧ readTrack [63, 4, 0, 0, 0, 0, 0, 0, 0] = some ⟨63, .keep, none⟩
      ∧ readTrack [10, 3, 0, 0, 0, 0, 0, 0, 0] = some ⟨10, .profile, none⟩ ∧ (segA.tile 10).chain.state ≠ .vacant
      ∧ (segA.tile 10).mode = some .model ∧ (lit.tile 0).mode = some .fixed ∧ (lit.tile 0).chain.state = .active :=
  ⟨⟨⟨rfl, rfl⟩, rfl⟩, by decide +kernel⟩

theorem lit_factor : FactorInv lit := by
  intro i
  rw [lit_tile]
  split <;> decide +kernel

theorem hyp_ClearFaultsAcknowledges :
    Accepts .clearFaults .service lit ∧ (lit.tile 0).chain.state ≠ .vacant ∧ FactorInv lit
      ∧ ({ lit.budget with latched := true } : Budget).active = false :=
  ⟨⟨⟨rfl, rfl⟩, rfl⟩, by decide +kernel, lit_factor, rfl⟩

theorem hyp_RetryExpiryReleasesTheAction :
    ((lit.tile 0).prot.act .hot).timer = some 10000 ∧ ((lit.tile 0).prot.act .hot).kind ≠ .none
      ∧ (lit.tile 0).chain.state = .active ∧ (lit.tile 0).slew.ga = some ⟨3600, 3400, 3000⟩ := by decide +kernel

theorem hyp_StoreRequestsBeginTheirWrite :
    Accepts .putProfile .service (stocked quiet) ∧ Accepts .dropProfile .service (stocked quiet)
      ∧ Accepts .putMap .service (stocked quiet) ∧ Accepts .clearMap .service (stocked quiet)
      ∧ (stocked quiet).store.write = none
      ∧ readPutProfile ([96, 1, 0, 1, 0, 0, 0, 0, 0, 0, 9] ++ List.replicate 39 0)
          = some ⟨96, .clear, { kind := .tile, serial := some 9 }⟩
      ∧ putRefusal (stocked quiet).store 96 { kind := .tile, serial := some 9 } = none
      ∧ readPutProfile ([0, 0, 0, 1, 0, 0, 0, 0, 0, 0, 9] ++ List.replicate 39 0)
          = some ⟨0, .keep, { kind := .tile, serial := some 9 }⟩
      ∧ (stocked quiet).store.lowestEmpty = some 2 ∧ putRefusal (stocked quiet).store 2 { kind := .tile, serial := some 9 } = none
      ∧ readDrop [1] = some 1 ∧ ((stocked quiet).store.profile 1).isSome = true ∧ (stocked quiet).store.isBase 1 = false
      ∧ readPutMap [15, 0, 63] = some (⟨15, 0⟩, some 63) ∧ readPutMap [0, 15, 255] = some (⟨0, 15⟩, none) :=
  ⟨⟨⟨rfl, rfl⟩, rfl⟩, ⟨⟨rfl, rfl⟩, rfl⟩, ⟨⟨rfl, rfl⟩, rfl⟩, ⟨⟨rfl, rfl⟩, rfl⟩, by decide +kernel⟩

/-- A store with BASE record 2 that TILE record 1 links to, and slot 5 placed. -/
def linked : Store :=
  { ((stocked quiet).store.putCell 1 (.good { rec5 with link := some 2 })).putCell 2 (.good { kind := .base }) with
    map := quiet.store.map.put 0 (.slot 5) }

theorem hyp_StoreConditionsRefuse :
    ({ linked with write := some ⟨.clearMap, some .service⟩ } : Store).write ≠ none
      ∧ linked.write = none ∧ linked.profile 1 = some { rec5 with link := some 2 } ∧ linked.profile 2 = some { kind := .base }
      ∧ linked.profile 96 = none ∧ linked.entry ⟨0, 0⟩ = some 5 ∧ (⟨0, 0⟩ : Pos) ≠ ⟨15, 15⟩
      ∧ (∀ k : Fin 96, ({ profiles := Table.fill 96 (.good rec5) } : Store).profile (k.val + 1) ≠ none) := by decide +kernel

theorem hyp_MapWriteCompletes :
    ({ store := { linked with write := some ⟨.putMap ⟨0, 0⟩ (some 6), some .service⟩ } } : State).store.queue = []
      ∧ ({ linked with write := some ⟨.putMap ⟨0, 0⟩ (some 6), some .service⟩ } : Store).write
          = some ⟨.putMap ⟨0, 0⟩ (some 6), some .service⟩
      ∧ ({ linked with write := some ⟨.clearMap, some .service⟩ } : Store).write = some ⟨.clearMap, some .service⟩
      ∧ (segA.tile 10).chain.waits = false := by decide +kernel

theorem hyp_ProfileWriteCompletes :
    ({ linked with write := some ⟨.putProfile 96 rec5, some .service⟩ } : Store).write
        = some ⟨.putProfile 96 rec5, some .service⟩
      ∧ linked.queue = [] ∧ (segA.tile 10).chain.state = .active ∧ (segA.tile 10).chain.bound = 1
      ∧ rec5.serial = (segA.tile 10).chain.serial ∧ (segA.tile 11).dependsOn 1 = false
      ∧ (∃ w, resolve (stocked quiet).store.profile 1 rec5 = .ok w) :=
  ⟨by decide +kernel, by decide +kernel, by decide +kernel, by decide +kernel, by decide +kernel, by decide +kernel, _, rfl⟩

theorem hyp_RoundOrEnumerationBegins :
    segA.inReset = false ∧ segA.chain.activity = .idle ∧ segA.token = .free ∧ (segA.tile 10).chain.state ≠ .vacant
      ∧ (∀ j : Slot, j < 10 → (segA.tile j).chain.state = .vacant)
      ∧ ({ quiet with token := .relearn none } : State).chain.activity = .idle := by decide +kernel

theorem hyp_PollReplyUpdatesTheSlot :
    (doing (.poll 10) settled).chain.activity = .poll 10 ∧ pollReplyOk (some 125) 16777215 255 ⟨4095, 4095, 4095⟩ = true
      ∧ pollReplyOk none 0 0 ⟨0, 0, 0⟩ = true ∧ (settled.tile 10).chain.state = .active
      ∧ (inState .joining none).chain.bound ≠ 0 ∧ ({ inState .joining none with chain := { state := .joining } } : Tile).chain.bound = 0
      ∧ (inState .lost (some .active)).chain.former = some .active ∧ quiet.protSet.lostPolicy = .auto
      ∧ ({ quiet.protSet with lostPolicy := .onClear } : ProtSettings).lostPolicy = .onClear
      ∧ (inState .unprofiled none).chain.state = .unprofiled ∧ (settled.tile 11).chain.state ≠ .vacant := by decide +kernel

theorem hyp_MissIsCounted :
    missedSlot (doing (.poll 10) settled).chain.activity = some 10 ∧ missedSlot settled.chain.activity = some 10
      ∧ missedSlot (sweeping (.patch 10 .r)).chain.activity = some 10
      ∧ missedSlot (sweeping (.patchOff 10 .r 0 .accepted)).chain.activity = some 10
      ∧ missedSlot (sweeping (.sense 10 .r 3)).chain.activity = some 10
      ∧ SlotState.former (settled.tile 10).chain.state = some .active ∧ settled.chain.missLimit ≤ min 15 (2 + 1)
      ∧ min 15 ((settled.tile 10).chain.missCount + 1) < settled.chain.missLimit
      ∧ (inState .lost (some .active)).chain.state = .lost := by decide +kernel

theorem hyp_AnsweredFrameClearsTheMissCount :
    settled.chain.activity = .push 10 ⟨2667, 2516, 2120⟩ ∧ coefFieldOk ⟨4095, 0, 4095⟩ = true
      ∧ (sweeping (.patch 10 .r)).chain.activity = .patch 10 .r ∧ discarding (sweeping (.patch 10 .r)) = false
      ∧ (sweeping (.sense 10 .r 3)).chain.activity = .sense 10 .r 3 ∧ 4095 ≤ 4095 := by decide +kernel

theorem hyp_AdoptReturnsOrReplacesTheTile :
    (doing (.adopt 0) (quiet.putTile 0 (inState .lost (some .active)))).chain.activity = .adopt 0
      ∧ (inState .lost (some .active)).chain.serial = some 5 ∧ (inState .lost (some .active)).chain.former = some .active
      ∧ (inState .lost (some .active)).chain.serial ≠ some 6 ∧ quiet.store.findTile 6 = none
      ∧ (stocked quiet).store.findTile 5 = some 1 ∧ (stocked quiet).store.profile 1 = some rec5
      ∧ (∀ j : Slot, (quiet.tile j).chain.bound ≠ 1) := by decide +kernel

theorem hyp_EnumReplyEntersTheSlot :
    State.reset.chain.activity = .enum (0 : Slot).val ∧ State.reset.token = .relearn none
      ∧ (State.reset.tile 0).chain.state = .vacant ∧ (doing (.enum 63) State.reset).chain.activity = .enum (63 : Slot).val
      ∧ (doing (.enum 64) State.reset).chain.activity = .enum 64
      ∧ (settled.tile 10).chain.state ≠ .vacant ∧ (settled.tile 10).chain.state ≠ .lost
      ∧ (settled.tile 10).chain.serial = some 5 := by decide +kernel

theorem hyp_EnumWithoutReplyEndsTheJob :
    (doing (.enum 64) State.reset).chain.activity = .enum 64 ∧ State.reset.chain.activity = .enum 0
      ∧ State.reset.token = .relearn none
      ∧ (run (.abort .service) (run (.relearn .service []) quiet)).token = .relearn (some .service)
      ∧ ((run (.abort .service) (run (.relearn .service []) quiet)).port .service).abortRequested = true
      ∧ (run (.abort .service) (run (.relearn .service []) quiet)).chain.activity = .enum 0 := by decide +kernel

theorem hyp_SenseReplyIsClassedByItsCount (r : Nat) :
    (sweeping (.sense 10 .r r)).chain.activity = .sense 10 .r r ∧ discarding (sweeping (.sense 10 .r r)) = false
      ∧ (255 < 256 ∧ 256 ≤ 4094 ∧ 4094 ≤ 4094 ∧ 4095 ≤ 4095) := ⟨rfl, rfl, by decide⟩

/-- The three channels of slot 10 accepted, with its record in the store. -/
def measured : State :=
  let s := sweeping (.patchOff 10 .b 0 .accepted)
  { s with sweep := { s.sweep with readings := ⟨some 3000, some 9000, some 1100⟩ }, store := (stocked quiet).store }

theorem hyp_ProbeStepRunsToItsEnd :
    (sweeping (.settle 10 .r)).chain.activity = .settle 10 .r ∧ (sweeping (.settle 10 .r)).chain.windDown = false
      ∧ ((sweeping (.settle 10 .r)).port (.prog .A)).abortRequested = false
      ∧ ((run (.abort (.prog .A)) (sweeping (.settle 10 .r))).port (.prog .A)).abortRequested = true
      ∧ (run (.abort (.prog .A)) (sweeping (.settle 10 .r))).chain.activity = .settle 10 .r
      ∧ (sweeping (.patchOff 10 .r 0 (.failed .under))).chain.activity = .patchOff 10 .r 0 (.failed .under)
      ∧ (sweeping (.patchOff 10 .r 0 .accepted)).sweep.nextChan = some .r
      ∧ measured.chain.activity = .patchOff 10 .b 0 .accepted ∧ measured.sweep.params = some ⟨10, 12, ⟨true, true, true⟩⟩
      ∧ measured.sweep.tsense = some 45 ∧ measured.sweep.hsense = some 4000 ∧ (measured.tile 10).chain.state = .active
      ∧ (measured.tile 10).chain.bound = 1 ∧ (measured.tile 10).chain.serial = some 5 ∧ measured.store.write = none
      ∧ measured.store.queue = [] ∧ measured.store.profile 1 = some rec5
      ∧ (run (.restartChain .service []) (sweeping (.patchOff 10 .r 0 .accepted))).sweep.state = .none := by decide +kernel

/-- A sweep of the service port, under way when port A holds authority. -/
def sweepingService (a : Activity) : State :=
  { busyWith .service .sweep (doing a { segment with auth := heldA.auth, showRec := { segment.showRec with m := 0 } }) with
    sweep := { sweepA with issuer := some .service }, token := .sweep .service }

theorem hyp_SweepIsAcceptedWhileDark :
    Accepts .sweep .service segment ∧ Accepts .sweep .service quiet ∧ Accepts .sweep (.prog .A) (sweepingService (.settle 10 .r))
      ∧ readSweep [0, 63, 7] = some ⟨0, 63, ⟨true, true, true⟩⟩ ∧ readSweep [63, 63, 1] = some ⟨63, 63, ⟨true, false, false⟩⟩
      ∧ segment.showRec.m ≠ 0 ∧ quiet.showRec.m = 0 ∧ (sweepingService (.settle 10 .r)).token = .sweep .service
      ∧ (sweepingService (.settle 10 .r)).sweep.issuer = some .service :=
  ⟨⟨⟨rfl, rfl⟩, rfl⟩, ⟨⟨rfl, rfl⟩, rfl⟩, ⟨⟨rfl, rfl⟩, rfl⟩, by decide +kernel⟩

theorem hyp_RelearnIsAccepted :
    Accepts .relearn .service quiet ∧ Accepts .relearn .service segment
      ∧ Accepts .relearn (.prog .A) (sweepingService (.patch 10 .r)) ∧ quiet.token = .free ∧ segment.token = .free
      ∧ quiet.chain.activity = .idle ∧ segment.chain.activity ≠ .idle :=
  ⟨⟨⟨rfl, rfl⟩, rfl⟩, ⟨⟨rfl, rfl⟩, rfl⟩, ⟨⟨rfl, rfl⟩, rfl⟩, by decide +kernel⟩

theorem hyp_RestartChainStartsTheWallAfresh :
    Accepts .restartChain .service segment ∧ Accepts .restartChain .service (sweeping (.patch 10 .r))
      ∧ Accepts .restartChain (.prog .A) { heldA with token := .relearn (some .service) }
      ∧ Accepts .restartChain (.prog .A) { heldA with token := .relearn none } ∧ (segment.tile 10).chain.state ≠ .vacant :=
  ⟨⟨⟨rfl, rfl⟩, rfl⟩, ⟨⟨rfl, rfl⟩, rfl⟩, ⟨⟨rfl, rfl⟩, rfl⟩, ⟨⟨rfl, rfl⟩, rfl⟩, by decide +kernel⟩

/-- A SENSED tile, with and without a sense set. -/
def sensedTile (x : Option SenseSet) : Tile :=
  { tileOf 5 1 { profA with sense := x } 4000 45 with slew := { override := some .sensed } }

theorem hyp_CapacityAndTargetGain :
    segment.chain.activity = .adopt 63 ∧ segment.sweep.state ≠ .running ∧ (segment.tile 10).chain.state = .active
      ∧ (segment.tile 10).held = .full profA ∧ PickedReference (segment.tile 10) profA ⟨3000, 9000, 1100⟩ 25 0
      ∧ PickedReference (sensedTile none) profA ⟨3000, 9000, 1100⟩ 25 0
      ∧ PickedReference (sensedTile (some ⟨⟨1, 2, 3⟩, 4, 5⟩)) { profA with sense := some ⟨⟨1, 2, 3⟩, 4, 5⟩ } ⟨1, 2, 3⟩ 4 5 :=
  ⟨by decide +kernel, by decide +kernel, by decide +kernel, by decide +kernel,
    .inr ⟨.inl (by decide +kernel), rfl, rfl⟩, .inr ⟨.inr ⟨rfl, rfl⟩, rfl, rfl⟩, .inl ⟨rfl, rfl⟩⟩

theorem hyp_CommonWhiteIsWithinReach :
    segment.chain.activity = .adopt 63 ∧ segment.sweep.state ≠ .running ∧ Contributes (settled.tile 10)
      ∧ (doing (.adopt 63) quiet).sweep.state ≠ .running
      ∧ (∀ i, ((run .adoptNoReply (doing (.adopt 63) quiet)).tile i).eng.contributing = false) :=
  ⟨by decide +kernel, by decide +kernel, ⟨by decide +kernel, .inl (by decide +kernel), by decide +kernel⟩,
    by decide +kernel, by decide +kernel⟩

/-- Also for the coefficients. -/
theorem hyp_AppliedGainsFollowTheTable :
    (stage .next 4096 200 {}).chain.activity = .adopt 63 ∧ ((stage .next 4096 200 {}).tile 0).mode = some .fixed
      ∧ (segment.tile 10).mode = some .model ∧ (segment.tile 10).slew.firstSet = true
      ∧ (settled.tile 10).slew.firstSet = false ∧ (settled.tile 10).prot.hotAct.kind ≠ .hold
      ∧ (settled.tile 10).slew.ga = some ⟨3556, 3355, 2827⟩
      ∧ ({ settled.tile 10 with prot := { hotAct := ⟨.hold, none, none⟩ } } : Tile).prot.hotAct.kind = .hold
      ∧ (inState .unprofiled none).chain.state = .unprofiled ∧ (inState .joining none).chain.state = .joining
      ∧ (inState .lost (some .active)).chain.state = .lost := by decide +kernel

theorem hyp_BudgetIsEvaluatedByItsMode :
    (stage .below 4096 255 { state := .clear }).chain.activity = .adopt 63
      ∧ (stage .below 4096 255 { state := .clear }).sweep.state ≠ .running
      ∧ (stage .below 4096 255 { state := .clear }).budget.state = .clear
      ∧ (stage .below 4096 200 { state := .tripped }).budget.set.mode = .below
      ∧ (stage .count 4096 200 { state := .tripped, hold := 2 }).budget.hold = 2
      ∧ (stage .count 4096 200 { state := .tripped, hold := 1 }).budget.hold = 1 ∧ segment.budget.state = .off := by
  decide +kernel

/-- Slot 5 stands at column 0, row 0, and slot 6 east of it. -/
def placed : State :=
  { quiet with store := { linked with map := linked.map.put 1 (.slot 6) }
               inverse := (quiet.inverse.put 5 (some ⟨0, 0⟩)).put 6 (some ⟨1, 0⟩) }

theorem placed_inverse (i : Slot) (x : Pos) : placed.inverse.get i = some x ↔ placed.store.entry x = some i := by
  have hi : placed.inverse.get i = if i = 5 then some ⟨0, 0⟩ else if i = 6 then some ⟨1, 0⟩ else none := by
    revert i; decide +kernel
  have hx : placed.store.entry x = if x = ⟨0, 0⟩ then some 5 else if x = ⟨1, 0⟩ then some 6 else none := by
    obtain ⟨c, r⟩ := x
    revert c r; decide +kernel
  rw [hi, hx]
  constructor <;> intro h <;> split at h <;> (try split at h) <;> cases h <;> subst_vars <;> decide

theorem hyp_ConditionTable :
    evalClass ⟨.retry, .dim, 2048, 10⟩ true {} {} = (⟨true, true, true⟩, ⟨.dim, some 2048, some 10000⟩)
      ∧ evalClass ⟨.latched, .hold, 2048, 10⟩ true {} {} = (⟨true, true, true⟩, ⟨.hold, none, none⟩)
      ∧ evalClass ⟨.off, .hold, 2048, 10⟩ true {} {} = (⟨true, false, false⟩, {})
      ∧ evalClass ⟨.report, .hold, 2048, 10⟩ false ⟨true, true, true⟩ {} = (⟨false, false, true⟩, {}) := by decide

theorem lit_gains : CoefInv lit ∧ GainInv lit := by
  refine ⟨⟨fun i => ?_, fun i c h => by cases h⟩, fun i => ?_⟩ <;> rw [lit_tile] <;> split
  · exact ⟨(by intro v h; cases h), (by intro v h; cases h)⟩
  · exact ⟨(by intro v h; cases h), (by intro v h; cases h)⟩
  · refine ⟨?_, (by unfold RGB.within; decide +kernel), (by intro v h; cases h)⟩
    intro v h
    cases h
    exact (by unfold RGB.within; decide)
  · exact ⟨(by intro v h; cases h), (by unfold RGB.within; decide), (by intro v h; cases h)⟩

theorem hyp_StepKeepsGainsAndCoefficients : CoefInv lit ∧ GainInv lit ∧ ∃ t, step lit = .next t :=
  ⟨lit_gains.1, lit_gains.2, _, rfl⟩

theorem hyp_StepKeepsFlagsAndFactors : FlagsInv lit ∧ FactorInv lit ∧ ∃ t, step lit = .next t := by
  refine ⟨fun i => ?_, lit_factor, _, rfl⟩
  rw [lit_tile]
  split <;> decide +kernel

theorem hyp_StepKeepsSettingsAndBudget : SettingsInv lit ∧ BudgetInv lit ∧ ∃ t, step lit = .next t := by
  refine ⟨?_, ?_, _, rfl⟩
  · unfold SettingsInv RGB.within; decide +kernel
  · unfold BudgetInv; decide +kernel

/-- The slot that stands at a position has that position as its own, and the other way round: enough for the invariants of the
map. -/
theorem map_invs {s : State} (hw : s.store.write = none)
    (h : ∀ i x, s.inverse.get i = some x ↔ s.store.entry x = some i) : MapInv s ∧ InverseInv s := by
  refine ⟨⟨fun x y n hx hy => ?_, fun w x n e => ?_⟩, fun _ => h⟩
  · have := (h n x).mpr hx
    rw [(h n y).mpr hy] at this
    exact (Option.some.inj this).symm
  · rw [hw] at e; cases e

theorem hyp_StepKeepsTheMap : MapInv placed ∧ InverseInv placed ∧ ∃ t, step placed = .next t :=
  ⟨(map_invs rfl placed_inverse).1, (map_invs rfl placed_inverse).2, _, rfl⟩

theorem hyp_StepKeepsTheJobs : JobsInv quiet ∧ ∃ t, step quiet = .next t := by
  refine ⟨⟨?_, ?_, ?_, ?_, ?_, ?_, ?_, ?_, ?_, ?_, ?_, ?_, ?_⟩, _, rfl⟩
  · rintro ((_ | _) | _) <;> decide
  · rintro ((_ | _) | _) <;> decide
  · rintro (_ | _) <;> decide
  · decide
  · intro q h; cases h
  · intro w h; cases h
  · intro w p h; cases h
  · rintro ((_ | _) | _) n h <;> cases h
  · intro h; exact absurd rfl h
  · intro p h; cases h
  · intro h; cases h
  · rintro ((_ | _) | _) _ <;> rfl
  · intro h; cases h

theorem hyp_OnlyStatusEmptiesThePendingSet :
    (∃ t, step quiet = .next t) ∧ (∀ rest, quiet.pending ≠ .status .service :: rest)
      ∧ (∀ cause cut rest, quiet.pending ≠ .hardReset cause cut :: rest)
      ∧ (∀ rest, quiet.pending = .resetnRelease :: rest → quiet.inReset = false) :=
  ⟨⟨_, rfl⟩, fun _ h => (by cases h), fun _ _ _ h => (by cases h), fun _ _ => rfl⟩

theorem hyp_StandingRecordsChangeByTheirOwnRequests :
    (∃ t, step quiet = .next t) ∧ (∀ cause cut rest, quiet.pending ≠ .hardReset cause cut :: rest)
      ∧ (∀ rest, quiet.pending ≠ .storeWriteComplete :: rest) ∧ (∀ rest, quiet.pending ≠ .resetnRelease :: rest)
      ∧ (∀ p b rest, quiet.pending ≠ .setShow p b :: rest) ∧ (∀ p b rest, quiet.pending ≠ .setNotice p b :: rest) :=
  ⟨⟨_, rfl⟩, fun _ _ _ h => (by cases h), fun _ h => (by cases h), fun _ h => (by cases h), fun _ _ _ h => (by cases h),
    fun _ _ _ h => (by cases h)⟩

/-! ## The hypotheses of the clauses -/

/-- A slot UNPROFILED whose SENSOR action, a DIM, is in force. -/
def dimmed : State :=
  quiet.putTile 0 { inState .unprofiled none with
    prot := { sensor := ⟨true, true, true⟩, sensorAct := ⟨.dim, some 2048, some 10000⟩, p := 2048 } }

/-- A block that gives both dim levels alone leaves both modes, and changes the P of slot 0. -/
theorem hyp_SetProtectBringsSlotsIntoLine_dim :
    let block : List Byte := [0x44, 0] ++ List.replicate 18 0
    Accepts .setProtect .service dimmed ∧ Accepts .setProtect .service lit ∧ (readProtect block).isSome = true
      ∧ (run (.setProtect .service block) dimmed).protSet.sensor.mode = dimmed.protSet.sensor.mode
      ∧ (dimmed.tile 0).prot.sensorAct.kind ≠ .none ∧ (dimmed.tile 0).prot.hotAct.kind = .none
      ∧ (dimmed.tile 0).chain.state = .unprofiled
      ∧ ((run (.setProtect .service ([0x60, 0] ++ List.replicate 18 0)) dimmed).tile 0).prot.p ≠ (dimmed.tile 0).prot.p
      ∧ (readProtect ([0x60, 0] ++ List.replicate 18 0)).isSome = true
      ∧ ((run (.setProtect .service block) dimmed).tile 1).prot.p = (dimmed.tile 1).prot.p :=
  ⟨⟨⟨rfl, rfl⟩, rfl⟩, ⟨⟨rfl, rfl⟩, rfl⟩, by decide +kernel⟩

/-- Port A holds authority with an estimate above 1100 W, and slot 0 is UNPROFILED. -/
def loaded : State :=
  { heldA.putTile 0 (inState .unprofiled none) with
    budget := { set := { budget := 1100 }, state := .tripped, sb := 3744, estimate := 12034, active := true, latched := true } }

theorem hyp_SetBudgetActsAtOnce_reform :
    Accepts .setBudget (.prog .A) loaded
      ∧ readBudget [1, 0, 0, 0, 0, 0, 0, 0, 0] = some ⟨some 0, none, none, none⟩
      ∧ (run (.setBudget (.prog .A) [1, 0, 0, 0, 0, 0, 0, 0, 0]) loaded).budget.sb ≠ loaded.budget.sb
      ∧ (run (.setBudget (.prog .A) [4, 0, 0, 0, 0, 0, 51, 0, 0]) loaded).budget.sb = loaded.budget.sb
      ∧ (loaded.tile 0).chain.state = .unprofiled ∧ (loaded.tile 1).chain.state = .vacant
      ∧ (run (.setBudget (.prog .A) [1, 0, 4, 0xB0, 0, 0, 0, 0, 0]) loaded).budget.set.budget = 1200
      ∧ (run (.setBudget (.prog .A) [1, 0, 5, 0x14, 0, 0, 0, 0, 0]) loaded).budget.set.budget * 10 ≥ 12034 :=
  ⟨⟨⟨rfl, rfl⟩, rfl⟩, by decide +kernel⟩

theorem hyp_SetTrackSetsOneSlot_vacant : (segA.tile 63).chain.state = .vacant := by decide +kernel

/-- Both timed classes LATCHED; slot 0 is LOST and answering; slot 1 has a HOT action whose condition has gone, a SENSOR action whose
condition stands, and PROBE; BUDGET has tripped and cleared. -/
def faulted : State :=
  { (quiet.putTile 0 { chain := { state := .lost, serial := some 5, former := some .active, answering := true, bound := 1 }
                       prot := { lost := ⟨false, false, true⟩ } }).putTile 1 { inState .active none with
      prot := { hot := ⟨false, false, true⟩, hotAct := ⟨.dim, some 2048, none⟩, sensor := ⟨true, true, true⟩
                sensorAct := ⟨.hold, none, none⟩, probe := ⟨true, true, true⟩, probeReason := some .under
                p := 2048 } } with
    protSet := ⟨⟨.latched, .dim, 2048, 10⟩, ⟨.latched, .hold, 2048, 10⟩, true, .onClear⟩
    budget := { set := { budget := 1100 }, state := .clear, latched := true } }

theorem hyp_ClearFaultsAcknowledges_all :
    Accepts .clearFaults .service faulted ∧ FactorInv faulted ∧ (faulted.tile 0).chain.state = .lost
      ∧ (faulted.tile 0).chain.answering = true ∧ (faulted.tile 0).chain.former = some .active
      ∧ faulted.protSet.hot.mode = .latched ∧ (faulted.tile 1).prot.hot.cond = false
      ∧ (faulted.tile 1).prot.sensor.cond = true ∧ (faulted.tile 1).prot.probe.latched = true
      ∧ (faulted.tile 1).chain.state ≠ .lost ∧ (faulted.tile 63).chain.state = .vacant
      ∧ faulted.budget.active = false ∧ faulted.budget.latched = true :=
  ⟨⟨⟨rfl, rfl⟩, rfl⟩, (by unfold FactorInv; decide +kernel), by decide +kernel⟩

theorem hyp_RetryExpiryReleasesTheAction_unprofiled :
    ((dimmed.tile 0).prot.act .sensor).timer ≠ none ∧ (dimmed.tile 0).chain.state = .unprofiled
      ∧ ((run (.retryTimerExpiry 0 .sensor) dimmed).tile 0).prot.p ≠ (dimmed.tile 0).prot.p := by decide +kernel

/-! The store's conditions and completions. -/

/-- What every index holds, from what the 96 hold. -/
theorem profile_all {st : Store} {f : Nat → Option Profile} (h : ∀ k : Fin 96, st.profile (k.val + 1) = f (k.val + 1))
    (hf : ∀ j, ¬(1 ≤ j ∧ j ≤ 96) → f j = none) (j : Nat) : st.profile j = f j := by
  by_cases hj : 1 ≤ j ∧ j ≤ 96
  · obtain ⟨k, rfl⟩ : ∃ k, j = k + 1 := ⟨j - 1, by omega⟩
    exact h ⟨k, by omega⟩
  · rw [profile_outside _ _ hj, hf j hj]

/-- A store whose only record is `r` at index 1, idle. -/
def onlyOne (r : Profile) : Store := quiet.store.putCell 1 (.good r)

theorem onlyOne_profile (r : Profile) (j : Nat) : (onlyOne r).profile j = if j = 1 then some r else none := by
  by_cases h : j = 1
  · subst h; exact profile_putCell_good _ 1 (by omega) r
  · rw [if_neg h, onlyOne, profile_putCell_other _ _ _ _ h]
    exact profile_all (f := fun _ => none) (by decide +kernel) (fun _ _ => rfl) j

/-- An index that a PUT-PROFILE names 0 for, and a serial that stands at another. -/
theorem hyp_StoreConditionsRefuse_named :
    PutTarget (onlyOne rec5) 0 2 ∧ PutTarget (onlyOne rec5) 1 1 ∧ PutTarget (onlyOne rec5) 96 96
      ∧ (∃ j r, j ≠ 2 ∧ (onlyOne rec5).profile j = some r ∧ r.kind = .tile ∧ r.serial = rec5.serial) := by
  refine ⟨.inr ⟨rfl, by decide, by decide, by simp [onlyOne_profile], fun j h k => ?_⟩, .inl ⟨by decide, rfl⟩,
    .inl ⟨by decide, rfl⟩, 1, rec5, by decide, by simp [onlyOne_profile], rfl, rfl⟩
  obtain rfl : j = 1 := by omega
  simp [onlyOne_profile]

/-- Chains that R36 refuses: a link to an empty index, a link to a TILE record, and a record that links to itself. -/
theorem hyp_StoreConditionsRefuse_links :
    BadChainThrough (fun j => if j = 3 then some { rec5 with link := some 96 } else none) 3
      ∧ BadChainThrough (fun j => if j = 3 then some { rec5 with link := some 1 } else (onlyOne rec5).profile j) 3
      ∧ BadChainThrough (fun j => if j = 3 then some { kind := .base, link := some 3 } else none) 3
      ∧ (∀ j r, j ≠ 3 → (onlyOne rec5).profile j = some r → r.kind = .tile → r.serial ≠ some 6) := by
  refine ⟨⟨[3, 96], by decide, by decide, ?_, .inr ⟨96, rfl, .inl rfl⟩⟩,
    ⟨[3, 1], by decide, by decide, ?_, .inr ⟨1, rfl, .inr ⟨rec5, by simp [onlyOne_profile], rfl⟩⟩⟩,
    ⟨[3, 3, 3, 3, 3], by decide, by decide, ?_, .inl rfl⟩, ?_⟩
  · intro n i j hi hj
    match n, hi, hj with
    | 0, hi, hj => cases hi; cases hj; exact ⟨_, rfl, rfl⟩
  · intro n i j hi hj
    match n, hi, hj with
    | 0, hi, hj => cases hi; cases hj; exact ⟨_, rfl, rfl⟩
  · intro n i j hi hj
    match n, hi, hj with
    | 0, hi, hj => cases hi; cases hj; exact ⟨_, rfl, rfl⟩
    | 1, hi, hj => cases hi; cases hj; exact ⟨_, rfl, rfl⟩
    | 2, hi, hj => cases hi; cases hj; exact ⟨_, rfl, rfl⟩
    | 3, hi, hj => cases hi; cases hj; exact ⟨_, rfl, rfl⟩
  · intro j r _ h k
    rw [onlyOne_profile] at h
    split at h
    · cases h; decide
    · cases h

/-- Slot 0 waits for serial 5, slot 1 is LOST and waits for serial 9, and a map write of the service port is in flight. -/
def waitingOn (r : Profile) : State :=
  { (quiet.putTile 0 (inState .unprofiled none)).putTile 1
      { chain := { state := .lost, serial := some 9, former := some .unprofiled } } with
    store := { onlyOne r with write := some ⟨.putMap ⟨0, 0⟩ (some 6), some .service⟩ } }

/-- The same record without a luminance group. -/
def unref : Profile := { rec5 with luminance := none }

theorem waitingOn_profile (j : Nat) :
    (run .storeWriteComplete (waitingOn rec5)).store.profile j = (if j = 1 then some rec5 else none)
      ∧ (run .storeWriteComplete (waitingOn unref)).store.profile j = if j = 1 then some unref else none :=
  ⟨profile_all (f := fun j => if j = 1 then some rec5 else none) (by decide +kernel) (fun _ h => if_neg (by omega)) j,
    profile_all (f := fun j => if j = 1 then some unref else none) (by decide +kernel) (fun _ h => if_neg (by omega)) j⟩

/-- A store with one record holds one record with its serial. -/
theorem onlyRecord_of {st : Store} {r : Profile} {n : Serial} (h : ∀ j, st.profile j = if j = 1 then some r else none)
    (hk : r.kind = .tile) (hn : r.serial = some n) : OnlyRecord st n 1 r := by
  refine ⟨by simp [h], hk, hn, fun j q hq _ _ => ?_⟩
  rw [h] at hq
  split at hq
  · assumption
  · cases hq

/-- The waiting slots at a completion: one that binds, one that fails to resolve, one whose serial no record carries. -/
theorem hyp_MapWriteCompletes_waiting :
    ((waitingOn rec5).tile 0).chain.waits = true ∧ ((waitingOn rec5).tile 0).chain.bound = 0
      ∧ ((waitingOn rec5).tile 1).chain.waits = true ∧ ((waitingOn rec5).tile 1).chain.bound = 0
      ∧ OnlyRecord (run .storeWriteComplete (waitingOn rec5)).store 5 1 rec5
      ∧ FreeFor 0 1 (waitingOn rec5) (run .storeWriteComplete (waitingOn rec5))
      ∧ (∃ w, resolve (run .storeWriteComplete (waitingOn rec5)).store.profile 1 rec5 = .ok w)
      ∧ OnlyRecord (run .storeWriteComplete (waitingOn unref)).store 5 1 unref
      ∧ FreeFor 0 1 (waitingOn unref) (run .storeWriteComplete (waitingOn unref))
      ∧ (∃ why w, resolve (run .storeWriteComplete (waitingOn unref)).store.profile 1 unref = .fail why w)
      ∧ (∀ j q, (run .storeWriteComplete (waitingOn rec5)).store.profile j = some q → q.kind = .tile →
          q.serial ≠ ((waitingOn rec5).tile 1).chain.serial) := by
  refine ⟨by decide +kernel, by decide +kernel, by decide +kernel, by decide +kernel,
    onlyRecord_of (fun j => (waitingOn_profile j).1) rfl rfl, (by unfold FreeFor; decide +kernel), ⟨_, rfl⟩,
    onlyRecord_of (fun j => (waitingOn_profile j).2) rfl rfl, (by unfold FreeFor; decide +kernel), ⟨_, _, rfl⟩, ?_⟩
  intro j q h _
  rw [(waitingOn_profile j).1] at h
  split at h
  · cases h; decide +kernel
  · cases h

/-- TILE record 1 links to BASE record 2; slot 10 is bound to record 1 and depends on both; and the write `op` is in
flight. -/
def dependent (op : WriteOp) : State :=
  { quiet.putTile 10 { tileOf 5 1 profA 4000 45 with held := .full { profA with chain := [1, 2] } } with
    store := { linked with write := some ⟨op, some .service⟩ } }

theorem dependent_profile (j : Nat) :
    (run .storeWriteComplete (dependent (.dropProfile 2))).store.profile j = (if j = 1 then some { rec5 with link := some 2 } else none)
      ∧ (run .storeWriteComplete (dependent (.dropProfile 1))).store.profile j = if j = 2 then some { kind := .base } else none :=
  ⟨profile_all (f := fun j => if j = 1 then some { rec5 with link := some 2 } else none) (by decide +kernel)
      (fun _ h => if_neg (by omega)) j,
    profile_all (f := fun j => if j = 2 then some { kind := .base } else none) (by decide +kernel) (fun _ h => if_neg (by omega)) j⟩

/-- A resolution that does not fail. -/
theorem resolution_ok {x : Resolution} (h : (match x with | .ok _ => true | .fail _ _ => false) = true) : ∃ w, x = .ok w := by
  cases x with
  | ok w => exact ⟨w, rfl⟩
  | fail _ _ => cases h

theorem resolution_fail {x : Resolution} (h : (match x with | .ok _ => false | .fail _ _ => true) = true) :
    ∃ why w, x = .fail why w := by
  cases x with
  | ok _ => cases h
  | fail why w => exact ⟨why, w, rfl⟩

/-- A bound slot whose base record changes, whose base record goes, and whose own record goes. -/
theorem hyp_ProfileWriteCompletes_bound :
    ((dependent .clearMap).tile 10).chain.waits = false ∧ ((dependent .clearMap).tile 10).dependsOn 2 = true
      ∧ ((dependent .clearMap).tile 10).dependsOn 1 = true ∧ ((dependent .clearMap).tile 10).dependsOn 3 = false
      ∧ (run .storeWriteComplete (dependent (.putProfile 2 { kind := .base, power := some 7 }))).store.profile 1
          = some { rec5 with link := some 2 }
      ∧ (∃ w, resolve (run .storeWriteComplete (dependent (.putProfile 2 { kind := .base, power := some 7 }))).store.profile 1
          { rec5 with link := some 2 } = .ok w)
      ∧ OnlyRecord (run .storeWriteComplete (dependent (.dropProfile 2))).store 5 1 { rec5 with link := some 2 }
      ∧ FreeFor 10 1 (dependent (.dropProfile 2)) (run .storeWriteComplete (dependent (.dropProfile 2)))
      ∧ (∃ why w, resolve (run .storeWriteComplete (dependent (.dropProfile 2))).store.profile 1
          { rec5 with link := some 2 } = .fail why w)
      ∧ (∀ j q, (run .storeWriteComplete (dependent (.dropProfile 1))).store.profile j = some q → q.kind = .tile →
          q.serial ≠ some 5) := by
  refine ⟨by decide +kernel, by decide +kernel, by decide +kernel, by decide +kernel, by decide +kernel,
    resolution_ok (by decide +kernel), onlyRecord_of (fun j => (dependent_profile j).1) rfl rfl, (by unfold FreeFor; decide +kernel),
    resolution_fail (by decide +kernel), ?_⟩
  intro j q h k
  rw [(dependent_profile j).2] at h
  split at h
  · cases h; cases k
  · cases h

/-- A sense write of record 1 in flight, handed for slot `i` by sweep 1, and port A's sweep at some state. -/
def sensing (i : Slot) (x : SweepState) (outstanding : Nat) : State :=
  { quiet.putTile 10 (tileOf 5 1 profA 4000 45) with
    store := { onlyOne rec5 with write := some ⟨.senseWrite ⟨1, 5, ⟨⟨3000, 9000, 1100⟩, 45, 4000⟩, i, 1⟩, none⟩ }
    sweep := { sweepA with state := x, outstanding := outstanding } }

theorem hyp_ProfileWriteCompletes_sense :
    (sensing 10 .waiting 1).store.profile 1 = some rec5 ∧ (sensing 10 .waiting 1).sweep.id = 1
      ∧ (sensing 10 .waiting 1).sweep.issuer = some (.prog .A) ∧ quiet.sweep.state = .none
      ∧ StillThere ⟨1, 5, ⟨⟨3000, 9000, 1100⟩, 45, 4000⟩, 10, 1⟩ (run .storeWriteComplete (sensing 10 .waiting 1))
      ∧ StillThere ⟨1, 5, ⟨⟨3000, 9000, 1100⟩, 45, 4000⟩, 10, 1⟩ (run .storeWriteComplete (sensing 10 .running 1))
      ∧ ¬StillThere ⟨1, 5, ⟨⟨3000, 9000, 1100⟩, 45, 4000⟩, 11, 1⟩ (run .storeWriteComplete (sensing 11 .waiting 2)) := by
  unfold StillThere; decide +kernel

/-- A map write in flight with a sense write of serial `n` behind it. -/
def queued (n : Serial) : State :=
  { sensing 10 .running 1 with
    store := { onlyOne rec5 with
      write := some ⟨.clearMap, some .service⟩, queue := [⟨1, n, ⟨⟨3000, 9000, 1100⟩, 45, 4000⟩, 10, 1⟩] } }

theorem hyp_ProfileWriteCompletes_queue :
    (run .storeWriteComplete (queued 5)).store.profile 1 = some rec5
      ∧ (run .storeWriteComplete (queued 6)).store.profile 1 = some rec5
      ∧ StillThere ⟨1, 6, ⟨⟨3000, 9000, 1100⟩, 45, 4000⟩, 12, 1⟩ ((run .storeWriteComplete (queued 6)).putTile 12 (tileOf 6 2 profB 0 0))
      ∧ (queued 6).sweep.state = .running ∧ (queued 6).sweep.id = 1 := by
  unfold StillThere; decide +kernel

/-! The enumeration. -/

/-- A RELEARN of the service port on which an ABORT waits, with ENUM `n` in flight. -/
def aborting (n : Nat) : State := doing (.enum n) (run (.abort .service) (run (.relearn .service []) quiet))

/-- LOST slots stay LOST until acknowledged. -/
def onClear (s : State) : State := { s with protSet := { s.protSet with lostPolicy := .onClear } }

theorem hyp_EnumReplyEntersTheSlot_more :
    (aborting 0).chain.activity = .enum (0 : Slot).val ∧ (aborting 63).chain.activity = .enum (63 : Slot).val
      ∧ (aborting 0).token = .relearn (some .service) ∧ ((aborting 0).port .service).abortRequested = true
      ∧ ((aborting 0).tile 0).chain.state = .vacant ∧ (aborting 0).store.findTile 5 = none
      ∧ (((aborting 0).putTile 0 (inState .active none)).tile 0).chain.serial = some 5
      ∧ (aborting 64).chain.activity = .enum 64 ∧ (onClear State.reset).protSet.lostPolicy = .onClear
      ∧ (((onClear State.reset).putTile 0 (inState .lost (some .active))).tile 0).chain.serial = some 5 := by decide +kernel

/-! The probe step. -/

/-- Port A's sweep with no tile in progress and cursor `n`, at the end of an ADOPT. -/
def between (n outstanding : Nat) : State :=
  { sweeping (.adopt 63) with
    sweep := { sweepA with tile := none, tsense := none, hsense := none, cursor := some n, outstanding := outstanding } }

/-- The slots from the cursor on: one that is measured after one that is passed over, none left, and none that can be. -/
theorem hyp_ProbeStepRunsToItsEnd_range :
    (between 9 0).chain.activity = .adopt 63 ∧ (between 9 0).sweep.state = .running ∧ (between 9 0).sweep.tile = none
      ∧ (between 9 0).sweep.params = some ⟨10, 12, ⟨true, true, true⟩⟩ ∧ (between 9 0).sweep.cursor = some 9
      ∧ CanBeMeasured ⟨true, true, true⟩ ((between 9 0).tile 10)
      ∧ (∀ m : Slot, 9 ≤ m.val → m < 10 → ¬CanBeMeasured ⟨true, true, true⟩ ((between 9 0).tile m))
      ∧ FirstChan ⟨true, true, true⟩ .r ∧ FirstChan ⟨false, false, true⟩ .b
      ∧ (∀ m : Slot, 13 ≤ m.val → m ≤ 12 → ¬CanBeMeasured ⟨true, true, true⟩ ((between 13 1).tile m))
      ∧ (∀ m : Slot, 12 ≤ m.val → m ≤ 12 → ¬CanBeMeasured ⟨true, true, true⟩ (((between 12 0).putTile 12 {}).tile m))
      ∧ (between 13 1).sweep.outstanding ≠ 0 ∧ (between 12 0).sweep.issuer = some (.prog .A) := by
  unfold CanBeMeasured FirstChan
  exact ⟨by decide +kernel, by decide +kernel, by decide +kernel, by decide +kernel, by decide +kernel, by decide +kernel,
    by decide +kernel, by decide, by decide, by decide +kernel, by decide +kernel, by decide +kernel, by decide +kernel⟩

/-- Slot 10 in progress: ACTIVE and bound, under OVERHEAT, LOST, and UNPROFILED. -/
theorem hyp_ProbeStepRunsToItsEnd_tile :
    (sweeping (.adopt 63)).chain.activity = .adopt 63 ∧ (sweeping (.adopt 63)).sweep.tile = some 10
      ∧ (sweeping (.adopt 63)).sweep.state = .running ∧ ((sweeping (.adopt 63)).tile 10).chain.state = .active
      ∧ ((sweeping (.adopt 63)).tile 10).chain.bound ≠ 0 ∧ ((sweeping (.adopt 63)).tile 10).prot.overheat.cond = false
      ∧ (sweeping (.adopt 63)).sweep.nextChan = some .r
      ∧ ({ tileOf 5 1 profA 4000 45 with prot := { overheat := ⟨true, true, true⟩ } } : Tile).prot.overheat.cond = true
      ∧ (inState .lost (some .active)).chain.state = .lost ∧ (inState .unprofiled none).chain.bound = 0 := by decide +kernel

/-! The temperature unit. -/

/-- Slot 5 polled, its sources `x` and `y`, with accumulator and Teff `r`; slot 6 east of it is ACTIVE at 40. -/
def polled (x y : Source) (r : TempRec) : State :=
  doing (.poll 5) ((placed.putTile 5 { tileOf 5 1 { profA with tempSource := ⟨x, y, 25⟩ } 4000 45 with temp := r }).putTile 6
    (tileOf 6 2 profB 2500 40))

theorem polled_maps (x y : Source) (r : TempRec) : MapInv (polled x y r) ∧ InverseInv (polled x y r) :=
  map_invs rfl placed_inverse

/-- Own, a neighbour, ambient and fixed sources; the fallback where the primary is not available; and none. -/
theorem hyp_ConditionTable_sources :
    (polled .own .fixed {}).chain.activity = .poll 5 ∧ pollReplyOk (some 85) 0 0 ⟨0, 0, 0⟩ = true
      ∧ validOwn (some 125) false = some 125 ∧ validOwn (some 126) false = none ∧ validOwn (some (-40)) true = none
      ∧ Selected (polled .own .fixed {}) 5 (some 85) .own .primary 85 none
      ∧ Selected (polled .east .own {}) 5 none .east .primary 40 (some 6)
      ∧ Selected (polled .ambient .fixed {}) 5 none .fixed .fallback 25 none
      ∧ (∀ z role v n, ¬Selected (polled .own .ambient {}) 5 none z role v n) := by
  refine ⟨rfl, by decide, by decide, by decide, by decide, .inl ⟨by decide +kernel, rfl, .inl ⟨rfl, rfl, rfl⟩⟩,
    .inl ⟨by decide +kernel, rfl, .inr (.inr (.inr ⟨⟨0, 0⟩, ⟨1, 0⟩, 6, .inr (.inl ⟨rfl, rfl, rfl⟩), by decide +kernel⟩))⟩,
    .inr ⟨fun u m h => ?_, by decide +kernel, rfl, .inr (.inr (.inl ⟨rfl, by decide +kernel, rfl⟩))⟩, ?_⟩
  · have e : ((polled .ambient .fixed {}).tile 5).held.groups.tempSource.primary = .ambient := by decide +kernel
    have a : (polled .ambient .fixed {}).showRec.ambient = none := rfl
    rw [e] at h
    simp [Available, NextTo, a] at h
  · have e : ((polled .own .ambient {}).tile 5).held.groups.tempSource = ⟨.own, .ambient, 25⟩ := by decide +kernel
    have a : (polled .own .ambient {}).showRec.ambient = none := rfl
    intro z role v n h
    simp only [Selected, e] at h
    rcases h with ⟨rfl, _, h⟩ | ⟨_, rfl, _, h⟩ <;> simp [Available, NextTo, a] at h

/-- A first sample, a block that fills, one that does not, and a source that changes; a reading at, below and between the limits of
OVERHEAT. -/
theorem hyp_ConditionTable_samples :
    ((polled .own .fixed {}).tile 5).temp.teff = none ∧ ((polled .own .fixed {}).tile 5).temp.source = .absent
      ∧ ((polled .own .fixed { teff := some 45, count := 7, source := .source .own }).tile 5).temp.teff ≠ none
      ∧ 7 + 1 = 2 ^ quiet.tempSet.w ∧ 6 + 1 ≠ 2 ^ quiet.tempSet.w
      ∧ ((polled .own .fixed { teff := some 45, count := 7, source := .source .own }).tile 5).temp.source = .source .own
      ∧ ((polled .east .own { teff := some 45, count := 7, source := .source .own }).tile 5).temp.source ≠ .absent
      ∧ quiet.tempSet.tripLimit = 85 ∧ quiet.tempSet.hysteresis = 5 ∧ quiet.tempSet.w ≠ 0 := by decide +kernel

end Sys2Proof.Tests
end

section
/-! The budget unit as a block of its own: what R147, R148 and R152 say of it, and that every operation on it keeps that. -/

namespace Sys2Proof.Machine

/-- The budget unit is in line with its own state (R147, R152): `BudgetInv` as a statement about the unit alone. -/
def Budget.Sound (b : Budget) : Prop :=
  (b.active = true ↔ b.state = .tripped) ∧ (b.active = true → b.latched = true)
    ∧ 1024 ≤ b.sb ∧ b.sb ≤ 4096 ∧ (b.state ≠ .tripped → b.sb = 4096) ∧ (b.state = .off ↔ b.set.budget = 0)

theorem budgetInv_iff (s : State) : BudgetInv s ↔ s.budget.Sound := Iff.rfl

/-- A verdict the unit can take over: not OFF, with Sb in its range and 4096 unless TRIPPED (R151, R152). -/
def BudgetVerdict.Sound (v : BudgetVerdict) : Prop :=
  v.state ≠ .off ∧ 1024 ≤ v.sb ∧ v.sb ≤ 4096 ∧ (v.state ≠ .tripped → v.sb = 4096)

theorem candidate_range (x : BudgetSettings) (e : Nat) : 1024 ≤ x.candidate e ∧ x.candidate e ≤ 4096 := by
  unfold BudgetSettings.candidate clampNat
  split
  · split
    · omega
    · split <;> omega
  · omega

theorem evalClear_sound (x : BudgetSettings) (e : Nat) : (evalClear x e).Sound := by
  have hc := candidate_range x e
  unfold evalClear BudgetVerdict.Sound
  split
  · refine ⟨by simp, ?_, ?_, by simp⟩ <;> dsimp only <;> split <;> omega
  · simp

/-- An evaluation from state CLEAR that ends TRIPPED is a trip (R152). -/
theorem evalClear_trip (x : BudgetSettings) (e : Nat) (h : (evalClear x e).state = .tripped) : (evalClear x e).trip = true := by
  unfold evalClear at h ⊢
  split <;> simp_all

theorem evalTripped_sound (x : BudgetSettings) (e sb hold : Nat) (h1 : 1024 ≤ sb) (h2 : sb ≤ 4096) :
    (evalTripped x e sb hold).Sound := by
  have hc := candidate_range x e
  unfold evalTripped
  split
  case h_1 => exact evalClear_sound x e
  case h_2 => exact evalClear_sound x e
  case h_3 =>
    split
    · simp [BudgetVerdict.Sound]
    · exact ⟨by simp, by dsimp only; omega, by dsimp only; omega, by simp⟩
  case h_4 =>
    split
    · exact ⟨by simp, h1, h2, by simp⟩
    · exact evalClear_sound x e

/-- A sound verdict leaves the unit sound where BUDGET's latched flag is set by the trip or stood before it. -/
theorem Budget.apply_sound (b : Budget) (e : Nat) (v : BudgetVerdict) (counted : Bool) (hb : b.set.budget ≠ 0) (hv : v.Sound)
    (hl : v.state = .tripped → b.latched = true ∨ (v.trip && counted) = true) : (b.apply e v counted).Sound := by
  obtain ⟨hoff, hlo, hhi, hsb⟩ := hv
  refine ⟨by simp [Budget.apply], fun ha => ?_, hlo, hhi, hsb, by simp [Budget.apply, hoff, hb]⟩
  have := hl (by simpa [Budget.apply] using ha)
  simpa [Budget.apply] using this

/-- What an operation on the budget unit keeps where it leaves the settings: the settings themselves, and soundness. -/
structure BudgetKept (b c : Budget) : Prop where
  set : c.set = b.set
  sound : b.Sound → c.Sound

theorem BudgetKept.refl (b : Budget) : BudgetKept b b := ⟨rfl, id⟩

theorem BudgetKept.trans {b c d : Budget} (h : BudgetKept b c) (k : BudgetKept c d) : BudgetKept b d :=
  ⟨k.set.trans h.set, fun hb => k.sound (h.sound hb)⟩

/-- The evaluation of a recomputation keeps the unit in line (R152 to R156). -/
theorem Budget.evaluate_kept (b : Budget) (e : Nat) : BudgetKept b (b.evaluate e).1 := by
  have hset : (b.evaluate e).1.set = b.set := by
    unfold Budget.evaluate
    dsimp only
    split <;> rfl
  refine ⟨hset, fun hb => ?_⟩
  obtain ⟨hact, hlat, hlo, hhi, hsb, hoff⟩ := hb
  unfold Budget.evaluate
  dsimp only
  split
  case h_1 h => exact ⟨hact, hlat, hlo, hhi, hsb, hoff⟩
  case h_2 h =>
    exact Budget.apply_sound _ e _ true (fun h0 => by simp [hoff.mpr h0] at h) (evalClear_sound _ _)
      fun ht => .inr (by simp [evalClear_trip _ _ ht])
  case h_3 h =>
    exact Budget.apply_sound _ e _ true (fun h0 => by simp [hoff.mpr h0] at h) (evalTripped_sound _ _ _ _ hlo hhi)
      fun _ => .inl (hlat (hact.mpr h))

/-- SET-BUDGET's effect on the unit keeps it in line with its new settings (R149). -/
theorem Budget.afterSet_sound (b : Budget) (x : BudgetSettings) (h : b.Sound) : (b.afterSet { b with set := x }).Sound := by
  obtain ⟨hact, hlat, hlo, hhi, hsb, hoff⟩ := h
  unfold Budget.afterSet
  dsimp only
  by_cases h0 : x.budget = 0
  · rw [if_pos h0]
    exact ⟨by simp, by simp, by simp, by simp, by simp, by simp [h0]⟩
  · rw [if_neg h0]
    split
    · refine Budget.apply_sound _ _ _ _ h0 (evalClear_sound _ _) fun ht => ?_
      by_cases hs : b.state = .tripped
      · exact .inl (hlat (hact.mpr hs))
      · exact .inr (by simp [evalClear_trip _ _ ht, hs])
    · rename_i hn
      have hs : b.state ≠ .off := fun hs => hn (.inr (.inr hs))
      exact ⟨hact, hlat, hlo, hhi, hsb, by simp [hs, h0]⟩

theorem Budget.restart_kept (b : Budget) : BudgetKept b b.restart := by
  refine ⟨rfl, fun _ => ?_⟩
  unfold Budget.restart Budget.Sound
  dsimp only
  by_cases h : b.set.budget = 0 <;> simp [h]

theorem clearBudget_kept (target : Option Slot) (b : Budget) : BudgetKept b (clearBudget target b) := by
  unfold clearBudget
  split
  · exact BudgetKept.refl b
  · by_cases h : b.active = true
    · rw [if_pos h]; exact BudgetKept.refl b
    · rw [if_neg h]
      refine ⟨rfl, fun hb => ?_⟩
      obtain ⟨hact, _, hrest⟩ := hb
      exact ⟨hact, fun ha => absurd ha h, hrest⟩

end Sys2Proof.Machine
end

section
/-! What the rest of a round may do once the reply or the miss of the frame in flight has been taken: the poll phase's remaining
steps, the recomputation and the push phase (R4, R5, R80). -/

namespace Sys2Proof.Machine

/-- What the rest of a round leaves of a tile: every field of the slot record but the pending coefficients, profile and
temperature, every condition but SHORT and PROBE, the override and the manual gains, lit hours and load. -/
structure RoundTile (x y : Tile) : Prop where
  chain : SameButPending x.chain y.chain
  held : y.held = x.held
  temp : y.temp = x.temp
  prot : y.prot = { x.prot with
    short := y.prot.short, probe := y.prot.probe, probeReason := y.prot.probeReason, probeChan := y.prot.probeChan }
  override : y.slew.override = x.slew.override
  manual : y.slew.manual = x.slew.manual
  hours : y.eng.hours = x.eng.hours
  load : y.eng.load = x.eng.load

theorem SameButPending.refl (x : SlotRec) : SameButPending x x := rfl

theorem SameButPending.trans {x y z : SlotRec} (h : SameButPending x y) (k : SameButPending y z) : SameButPending x z := by
  unfold SameButPending at h k ⊢
  rw [k, h]

section
variable {x y : SlotRec} (h : SameButPending x y)
include h

theorem SameButPending.state : y.state = x.state := (congrArg SlotRec.state h :)
theorem SameButPending.serial : y.serial = x.serial := (congrArg SlotRec.serial h :)
theorem SameButPending.missCount : y.missCount = x.missCount := (congrArg SlotRec.missCount h :)
theorem SameButPending.bound : y.bound = x.bound := (congrArg SlotRec.bound h :)
theorem SameButPending.reason : y.reason = x.reason := (congrArg SlotRec.reason h :)
theorem SameButPending.polled : y.polled = x.polled := (congrArg SlotRec.polled h :)
theorem SameButPending.former : y.former = x.former := (congrArg SlotRec.former h :)
theorem SameButPending.answering : y.answering = x.answering := (congrArg SlotRec.answering h :)
theorem SameButPending.confirmed : y.confirmed = x.confirmed := (congrArg SlotRec.confirmed h :)

end

theorem RoundTile.refl (x : Tile) : RoundTile x x := ⟨rfl, rfl, rfl, rfl, rfl, rfl, rfl, rfl⟩

theorem RoundTile.trans {x y z : Tile} (h : RoundTile x y) (k : RoundTile y z) : RoundTile x z :=
  ⟨h.chain.trans k.chain, k.held.trans h.held, k.temp.trans h.temp, by rw [k.prot, h.prot], k.override.trans h.override,
    k.manual.trans h.manual, k.hours.trans h.hours, k.load.trans h.load⟩

theorem RoundTile.lost {x y : Tile} (h : RoundTile x y) : y.prot.lost = x.prot.lost :=
  (congrArg ProtRec.lost h.prot :)

/-- A tile whose PROBE, or nothing but that, has been reported on. -/
theorem RoundTile.of_probe (x : Tile) (c : Cond) (why : Option ProbeReason) (ch : Option Chan) :
    RoundTile x (x.setProt { x.prot with probe := c, probeReason := why, probeChan := ch }) :=
  ⟨rfl, rfl, rfl, rfl, rfl, rfl, rfl, rfl⟩

/-- What the rest of a round leaves of the part: each tile as `RoundTile` says, the areas of the store, every setting, the show record
and authority; the budget unit stays in line with its state. -/
structure RoundStep (s t : State) : Prop where
  tile : ∀ j, RoundTile (s.tile j) (t.tile j)
  inReset : t.inReset = s.inReset
  auth : t.auth = s.auth
  showRec : t.showRec = s.showRec
  inverse : t.inverse = s.inverse
  tempSet : t.tempSet = s.tempSet
  slewSet : t.slewSet = s.slewSet
  protSet : t.protSet = s.protSet
  queue : t.pending = s.pending
  store : t.store = { s.store with write := t.store.write, queue := t.store.queue }
  chain : t.chain = { s.chain with
    adoptCursor := t.chain.adoptCursor, activity := t.chain.activity, windDown := t.chain.windDown }
  budget : BudgetKept s.budget t.budget

theorem RoundStep.refl (s : State) : RoundStep s s :=
  ⟨fun _ => .refl _, rfl, rfl, rfl, rfl, rfl, rfl, rfl, rfl, rfl, rfl, .refl _⟩

theorem RoundStep.trans {s t u : State} (h : RoundStep s t) (k : RoundStep t u) : RoundStep s u where
  tile j := (h.tile j).trans (k.tile j)
  inReset := k.inReset.trans h.inReset
  auth := k.auth.trans h.auth
  showRec := k.showRec.trans h.showRec
  inverse := k.inverse.trans h.inverse
  tempSet := k.tempSet.trans h.tempSet
  slewSet := k.slewSet.trans h.slewSet
  protSet := k.protSet.trans h.protSet
  queue := k.queue.trans h.queue
  store := by rw [k.store, h.store]
  chain := by rw [k.chain, h.chain]
  budget := h.budget.trans k.budget

variable (s : State)

/-! ## Updates that a round makes -/

theorem RoundStep.of_ports (x : Ports) : RoundStep s (s.setPorts x) :=
  ⟨fun _ => .refl _, rfl, rfl, rfl, rfl, rfl, rfl, rfl, rfl, rfl, rfl, .refl _⟩

theorem RoundStep.of_token (x : Token) : RoundStep s (s.setToken x) :=
  ⟨fun _ => .refl _, rfl, rfl, rfl, rfl, rfl, rfl, rfl, rfl, rfl, rfl, .refl _⟩

theorem RoundStep.of_sweep (x : SweepRec) : RoundStep s (s.setSweep x) :=
  ⟨fun _ => .refl _, rfl, rfl, rfl, rfl, rfl, rfl, rfl, rfl, rfl, rfl, .refl _⟩

theorem RoundStep.of_chain (cursor : Slot) (a : Activity) (down : Bool) :
    RoundStep s (s.setChain { s.chain with adoptCursor := cursor, activity := a, windDown := down }) :=
  ⟨fun _ => .refl _, rfl, rfl, rfl, rfl, rfl, rfl, rfl, rfl, rfl, rfl, .refl _⟩

theorem RoundStep.of_activity (a : Activity) : RoundStep s (s.setActivity a) := .of_chain s _ _ _

theorem RoundStep.of_store (w : Option StoreWrite) (q : List SenseWrite) :
    RoundStep s (s.setStore { s.store with write := w, queue := q }) :=
  ⟨fun _ => .refl _, rfl, rfl, rfl, rfl, rfl, rfl, rfl, rfl, rfl, rfl, .refl _⟩

theorem RoundStep.of_tile (i : Slot) (x : Tile) (h : RoundTile (s.tile i) x) : RoundStep s (s.putTile i x) := by
  refine ⟨fun j => ?_, rfl, rfl, rfl, rfl, rfl, rfl, rfl, rfl, rfl, rfl, .refl _⟩
  by_cases hj : j = i
  · subst hj; simpa using h
  · rw [State.tile_putTile_other s i j x hj]; exact .refl _

theorem RoundStep.notify {before after : State} (h : RoundStep s after) : RoundStep s (notify before after) :=
  h.trans (.of_ports _ _)

/-- An event's effect and the notices at its end. -/
theorem RoundStep.event {f : State → State} (h : RoundStep s (f s)) : RoundStep s (event f s) := h.notify

theorem RoundStep.of_endSweep (v : Verdict) (why : Option Reason) : RoundStep s (endSweep v why s) := by
  unfold endSweep
  split
  · exact .refl s
  · exact ((RoundStep.of_sweep s _).trans (.of_token _ _)).trans (.of_ports _ _)

theorem RoundStep.of_recompute : RoundStep s (recompute s) := by
  refine ⟨fun j => ?_, rfl, rfl, rfl, rfl, rfl, rfl, rfl, rfl, rfl, rfl, Budget.evaluate_kept _ _⟩
  obtain ⟨hheld, htemp, hchain, hprot, hover, hman, hhours, hload⟩ := tile_recompute_frame s j
  exact ⟨hchain, hheld, htemp, by rw [hprot], hover, hman, hhours, hload⟩

theorem RoundStep.of_pushFrom (k : Nat) : RoundStep s (pushFrom k s) := by
  rcases pushFrom_spec s k with ⟨h, _⟩ | ⟨i, _, _, h⟩ <;> (rw [h]; exact .of_activity s _)

theorem RoundStep.of_completePollPhase : RoundStep s (completePollPhase s) :=
  (RoundStep.of_recompute s).trans (.of_pushFrom _ _)

/-! ## The probe step -/

theorem RoundStep.of_failReport (i : Slot) (why : ProbeReason) (c : Option Chan) : RoundStep s (failReport i why c s) :=
  .of_tile s i _ (.of_probe _ _ _ _)

theorem RoundStep.of_failTile (i : Slot) (why : ProbeReason) (c : Option Chan) : RoundStep s (failTile i why c s) :=
  (RoundStep.of_failReport s i why c).trans (.of_sweep _ _)

theorem RoundStep.of_finishRange : RoundStep s (finishRange s) := by
  unfold finishRange
  split
  · exact .of_endSweep s _ _
  · exact .of_sweep s _

theorem RoundStep.of_probeFromCursor : RoundStep s (probeFromCursor s) := by
  unfold probeFromCursor
  split
  · exact .refl s
  · dsimp only
    split
    · exact (RoundStep.of_sweep s _).trans (.of_activity _ _)
    · exact (RoundStep.of_sweep s _).trans (.of_finishRange _)

theorem RoundStep.of_probeStep : RoundStep s (probeStep s) := by
  unfold probeStep
  split
  · exact .of_probeFromCursor s
  · dsimp only
    split
    · split
      · exact (RoundStep.of_sweep s _).trans (.of_probeFromCursor _)
      · split
        · exact .of_activity s _
        · exact (RoundStep.of_sweep s _).trans (.of_probeFromCursor _)
    · split
      · exact (RoundStep.of_failTile s _ _ _).trans (.of_probeFromCursor _)
      · exact (RoundStep.of_failTile s _ _ _).trans (.of_probeFromCursor _)

theorem RoundStep.of_probePhase : RoundStep s (probePhase s) := by
  have hp : RoundStep s (probeStep (s.setActivity .idle)) := (RoundStep.of_activity s _).trans (.of_probeStep _)
  unfold probePhase
  split
  · dsimp only
    split
    · exact hp
    · exact hp.trans (.of_completePollPhase _)
  · exact .of_completePollPhase s

theorem RoundStep.of_adoptPhase : RoundStep s (adoptPhase s) := by
  unfold adoptPhase
  split
  · exact .of_chain s _ _ _
  · exact .of_probePhase s

theorem RoundStep.of_pollFrom (k : Nat) : RoundStep s (pollFrom k s) := by
  rcases pollFrom_spec s k with ⟨h, _⟩ | ⟨i, _, _, h⟩
  · rw [h]; exact .of_adoptPhase s
  · rw [h]; exact .of_activity s _

/-! ## The end of a probe step -/

theorem RoundStep.of_sweepDoneIfWaiting : RoundStep s (sweepDoneIfWaiting s) := by
  unfold sweepDoneIfWaiting
  split
  · exact .of_endSweep s _ _
  · exact .refl s

theorem RoundStep.of_reportSense (w : SenseWrite) (ok : Bool) : RoundStep s (reportSense w ok s) := by
  have hprobe : RoundStep s (reportProbe w ok s) := by
    unfold reportProbe
    split
    · split
      · exact .of_tile s _ _ (.of_probe _ _ _ _)
      · exact .of_failReport s _ _ _
    · exact .refl s
  have htally : ∀ s : State, RoundStep s (reportTally w ok s) := by
    intro s
    unfold reportTally
    split
    · exact .of_sweep s _
    · exact .refl s
  exact (hprobe.trans (htally _)).trans (.of_sweepDoneIfWaiting _)

theorem RoundStep.of_startQueue (ws : List SenseWrite) : RoundStep s (startQueue ws s) := by
  induction ws generalizing s with
  | nil => exact .of_store s _ _
  | cons w ws ih =>
    unfold startQueue
    split
    · exact .of_store s _ _
    · exact (RoundStep.of_reportSense s w false).trans (ih _)

theorem RoundStep.of_handSenseWrite (w : SenseWrite) : RoundStep s (handSenseWrite w s) := by
  unfold handSenseWrite
  split
  · exact .of_store s _ _
  · exact .of_startQueue s _

theorem RoundStep.of_handOver (i : Slot) : RoundStep s (handOver i s) := by
  unfold handOver
  dsimp only
  split
  · exact .refl s
  · split
    · exact .of_failTile s _ _ _
    · split
      · exact .of_failTile s _ _ _
      · split
        · exact .of_failTile s _ _ _
        · exact (RoundStep.of_sweep s _).trans (.of_handSenseWrite _ _)

theorem RoundStep.of_settleProbe (i : Slot) (c : Chan) (e : ProbeEnd) : RoundStep s (settleProbe i c e s) := by
  unfold settleProbe
  split
  · exact .of_chain s _ _ _
  · split
    · exact .of_endSweep s _ _
    · split
      · split
        · exact .refl s
        · exact .of_handOver s i
      · exact .of_failTile s _ _ _
      · exact .of_failTile s _ _ _
      · exact .refl s

theorem RoundStep.of_endProbeStep (i : Slot) (c : Chan) (e : ProbeEnd) : RoundStep s (endProbeStep i c e s) :=
  (RoundStep.of_settleProbe s i c e).trans (.of_completePollPhase _)

theorem RoundStep.of_sendPatchOff (i : Slot) (c : Chan) (r : Nat) (e : ProbeEnd) : RoundStep s (sendPatchOff i c r e s) :=
  .of_activity s _

theorem RoundStep.of_senseReplied (i : Slot) (c : Chan) (r count : Nat) : RoundStep s (senseReplied i c r count s) := by
  unfold senseReplied
  split
  · exact .of_activity s _
  · split
    · exact .of_activity s _
    · exact (RoundStep.of_sweep s _).trans (.of_activity _ _)
    · exact .of_activity s _

end Sys2Proof.Machine
end

section
/-! The settings of every block (R6, R76, R120, R136, R148, R184): the ranges of each, who keeps them, and the step lemma of `SettingsInv`
and `BudgetInv`. -/

namespace Sys2Proof.Machine

/-! ## The ranges, block by block -/

/-- Round interval and miss limit lie in their ranges (R6). -/
def ChainCtl.InRange (c : ChainCtl) : Prop :=
  10 ≤ c.roundInterval ∧ c.roundInterval ≤ 1000 ∧ 1 ≤ c.missLimit ∧ c.missLimit ≤ 15

/-- The temperature settings lie in their ranges, the HOT limit below the trip limit (R76). -/
def TempSettings.InRange (x : TempSettings) : Prop :=
  x.w ≤ 7 ∧ x.hotLimit < x.tripLimit ∧ 40 ≤ x.hotLimit ∧ x.hotLimit ≤ 105 ∧ 50 ≤ x.tripLimit ∧ x.tripLimit ≤ 110
    ∧ 1 ≤ x.hysteresis ∧ x.hysteresis ≤ 20

/-- The slew settings lie in their ranges (R120). -/
def SlewSettings.InRange (x : SlewSettings) : Prop :=
  1 ≤ x.stepUp ∧ x.stepUp ≤ 512 ∧ 1 ≤ x.stepDown ∧ x.stepDown ≤ 512 ∧ x.tolerance ≤ 256

/-- The protection settings lie in their ranges (R136). -/
def ProtSettings.InRange (x : ProtSettings) : Prop :=
  x.hot.dim ≤ 4096 ∧ 1 ≤ x.hot.retry ∧ x.hot.retry ≤ 255 ∧ x.sensor.dim ≤ 4096 ∧ 1 ≤ x.sensor.retry ∧ x.sensor.retry ≤ 255

/-- The budget settings lie in their ranges (R148). -/
def BudgetSettings.InRange (x : BudgetSettings) : Prop :=
  (x.budget = 0 ∨ 100 ≤ x.budget) ∧ x.budget ≤ 65535 ∧ 1 ≤ x.hysteresis ∧ x.hysteresis ≤ 50 ∧ 1 ≤ x.count ∧ x.count ≤ 255

/-- The show record lies in its ranges (R184). -/
def ShowRec.InRange (x : ShowRec) : Prop :=
  x.m ≤ 4096 ∧ 1 ≤ x.want.r ∧ 1 ≤ x.want.g ∧ 1 ≤ x.want.b ∧ RGB.within 65535 x.want ∧ x.floorRatio ≤ 4096
    ∧ 5 ≤ x.timeout ∧ x.timeout ≤ 100 ∧ (x.ambient.all fun v => decide (-40 ≤ v) && decide (v ≤ 125)) = true

theorem settingsInv_iff (s : State) : SettingsInv s ↔ s.chain.InRange ∧ s.tempSet.InRange ∧ s.slewSet.InRange ∧ s.protSet.InRange
    ∧ s.budget.set.InRange ∧ s.showRec.InRange := Iff.rfl

/-! ## What a settings request puts in force -/

theorem clampNat_range {lo hi : Nat} (x : Nat) (h : lo ≤ hi) : lo ≤ clampNat lo hi x ∧ clampNat lo hi x ≤ hi := by
  unfold clampNat
  split
  · omega
  · split <;> omega

theorem clampInt_range {lo hi : Int} (x : Int) (h : lo ≤ hi) : lo ≤ clampInt lo hi x ∧ clampInt lo hi x ≤ hi := by
  unfold clampInt
  split
  · omega
  · split <;> omega

/-- A setting given is clamped and a setting not given stands, so what holds of both holds of the result. -/
theorem setTo_of {α β : Type} {P : β → Prop} (x : Option α) {clamp : α → β} {held : β} (hc : ∀ v, x = some v → P (clamp v))
    (hh : P held) : P (setTo x clamp held) := by
  cases x with
  | none => exact hh
  | some v => exact hc v rfl

/-- A number set through a clamp stays in the clamp's range. -/
theorem setTo_clampNat {lo hi : Nat} (x : Option Nat) (h : lo ≤ hi) {held : Nat} (hh : lo ≤ held ∧ held ≤ hi) :
    lo ≤ setTo x (clampNat lo hi) held ∧ setTo x (clampNat lo hi) held ≤ hi :=
  setTo_of (P := fun n => lo ≤ n ∧ n ≤ hi) x (fun v _ => clampNat_range v h) hh

theorem setTo_clampInt {lo hi : Int} (x : Option Int) (h : lo ≤ hi) {held : Int} (hh : lo ≤ held ∧ held ≤ hi) :
    lo ≤ setTo x (clampInt lo hi) held ∧ setTo x (clampInt lo hi) held ≤ hi :=
  setTo_of (P := fun n => lo ≤ n ∧ n ≤ hi) x (fun v _ => clampInt_range v h) hh

theorem setTo_min {hi : Nat} (x : Option Nat) {held : Nat} (hh : held ≤ hi) : setTo x (min hi) held ≤ hi :=
  setTo_of (P := (· ≤ hi)) x (fun _ _ => Nat.min_le_left _ _) hh

theorem slewAfter_inRange (x : SlewBlock) {r : SlewSettings} (h : r.InRange) : (slewAfter x r).InRange := by
  obtain ⟨hu, hu', hd, hd', ht⟩ := h
  obtain ⟨up, up'⟩ := setTo_clampNat x.stepUp (show 1 ≤ 512 by omega) ⟨hu, hu'⟩
  obtain ⟨down, down'⟩ := setTo_clampNat x.stepDown (show 1 ≤ 512 by omega) ⟨hd, hd'⟩
  exact ⟨up, up', down, down', setTo_min x.tolerance ht⟩

theorem tempAfter_inRange (x : TempBlock) {r : TempSettings} (h : r.InRange) : (tempAfter x r).InRange := by
  obtain ⟨hw, hlt, hh, hh', ht, ht', hy, hy'⟩ := h
  obtain ⟨hot, hot'⟩ := setTo_clampInt x.hotLimit (show (40 : Int) ≤ 105 by omega) ⟨hh, hh'⟩
  obtain ⟨trip, trip'⟩ := setTo_clampInt x.tripLimit (show (50 : Int) ≤ 110 by omega) ⟨ht, ht'⟩
  obtain ⟨hys, hys'⟩ := setTo_of (P := fun n : Int => 1 ≤ n ∧ n ≤ 20) x.hysteresis
    (clamp := fun h => (clampNat 1 20 h : Int)) (held := r.hysteresis)
    (fun v _ => by have := clampNat_range v (show 1 ≤ 20 by omega); omega) ⟨hy, hy'⟩
  refine ⟨setTo_min x.w hw, ?_, ?_, ?_, trip, trip', hys, hys'⟩ <;> dsimp only [tempAfter] <;> split <;> omega

theorem protectAfter_inRange (x : ProtBlock) {r : ProtSettings} (h : r.InRange) : (protectAfter x r).InRange := by
  obtain ⟨hd, hr, hr', sd, sr, sr'⟩ := h
  obtain ⟨hot, hot'⟩ := setTo_clampNat x.hot.retry (show 1 ≤ 255 by omega) ⟨hr, hr'⟩
  obtain ⟨sen, sen'⟩ := setTo_clampNat x.sensor.retry (show 1 ≤ 255 by omega) ⟨sr, sr'⟩
  exact ⟨setTo_min x.hot.dim hd, hot, hot', setTo_min x.sensor.dim sd, sen, sen'⟩

/-- A two-byte number is at most 65535 (R203). -/
theorem u16At_le (b : List Byte) (k : Nat) : u16At b k ≤ 65535 := by
  have h : ∀ n, byteAt b n ≤ 255 := fun n => by unfold byteAt; omega
  have := h k
  have := h (k + 1)
  unfold u16At
  omega

theorem eq_of_given {α : Type} {bit : Bool} {v w : α} (h : given bit v = some w) : v = w := by
  unfold given at h
  split at h
  · exact Option.some.inj h
  · exact absurd h (by simp)

theorem budgetAfter_inRange {b : List Byte} {x : BudgetBlock} (hx : readBudget b = some x) {r : BudgetSettings} (h : r.InRange) :
    (budgetAfter x r).InRange := by
  obtain ⟨hb, hb', hy, hy', hc, hc'⟩ := h
  have hread : x.budget = given (bitAt b 0 0) (u16At b 2) := by
    unfold readBudget at hx
    split at hx
    · obtain ⟨mode, _, rfl⟩ := Option.map_eq_some_iff.mp hx
      rfl
    · exact absurd hx (by simp)
  obtain ⟨bud, bud'⟩ := setTo_of (P := fun n => (n = 0 ∨ 100 ≤ n) ∧ n ≤ 65535) x.budget (clamp := clampBudget)
    (held := r.budget) (fun v hv => by
      have hle : v ≤ 65535 := eq_of_given (hread ▸ hv) ▸ u16At_le b 2
      unfold clampBudget
      split <;> omega) ⟨hb, hb'⟩
  obtain ⟨hys, hys'⟩ := setTo_clampNat x.hysteresis (show 1 ≤ 50 by omega) ⟨hy, hy'⟩
  obtain ⟨cnt, cnt'⟩ := setTo_clampNat x.count (show 1 ≤ 255 by omega) ⟨hc, hc'⟩
  exact ⟨bud, bud', hys, hys', cnt, cnt'⟩

theorem showAfter_inRange {b : List Byte} {x : ShowBlock} (hx : readShow b = some x) {r : ShowRec} (h : r.InRange) :
    (showAfter x r).InRange := by
  obtain ⟨hm, hr, hg, hb, hwant, hf, ht, ht', ha⟩ := h
  have hread : x.want = given (bitAt b 0 1) (rgb16At b 3) := by
    unfold readShow at hx
    split at hx
    · rw [← Option.some.inj hx]
    · exact absurd hx (by simp)
  obtain ⟨wr, wg, wb, wle⟩ := setTo_of (P := fun w : RGB Nat => 1 ≤ w.r ∧ 1 ≤ w.g ∧ 1 ≤ w.b ∧ RGB.within 65535 w) x.want
    (clamp := fun w => w.map (max 1)) (held := r.want) (fun v hv => by
      obtain rfl : rgb16At b 3 = v := eq_of_given (hread ▸ hv)
      have := u16At_le b 3
      have := u16At_le b (3 + 2)
      have := u16At_le b (3 + 4)
      simp only [RGB.map, RGB.within, rgb16At]
      omega) ⟨hr, hg, hb, hwant⟩
  obtain ⟨time, time'⟩ := setTo_clampNat x.timeout (show 5 ≤ 100 by omega) ⟨ht, ht'⟩
  refine ⟨setTo_min x.m hm, wr, wg, wb, wle, setTo_min x.floorRatio hf, time, time', ?_⟩
  dsimp only [showAfter]
  split
  · exact ha
  · rfl
  · rename_i t _
    have := clampInt_range t (show (-40 : Int) ≤ 125 by omega)
    simp [clampTemp, this]

/-! ## What keeps every setting -/

/-- Every setting stands, and the budget unit stays in line with its state. -/
structure SettingsKept (s t : State) : Prop where
  roundInterval : t.chain.roundInterval = s.chain.roundInterval
  missLimit : t.chain.missLimit = s.chain.missLimit
  tempSet : t.tempSet = s.tempSet
  slewSet : t.slewSet = s.slewSet
  protSet : t.protSet = s.protSet
  showRec : t.showRec = s.showRec
  budget : BudgetKept s.budget t.budget

/-- Every setting lies in its range and the budget unit is in line with its state. -/
def SettingsSound (s : State) : Prop := SettingsInv s ∧ BudgetInv s

theorem SettingsKept.refl (s : State) : SettingsKept s s := ⟨rfl, rfl, rfl, rfl, rfl, rfl, .refl _⟩

theorem SettingsKept.trans {s t u : State} (h : SettingsKept s t) (k : SettingsKept t u) : SettingsKept s u :=
  ⟨k.roundInterval.trans h.roundInterval, k.missLimit.trans h.missLimit, k.tempSet.trans h.tempSet, k.slewSet.trans h.slewSet,
    k.protSet.trans h.protSet, k.showRec.trans h.showRec, h.budget.trans k.budget⟩

theorem SettingsKept.sound {s t : State} (h : SettingsKept s t) (hs : SettingsSound s) : SettingsSound t := by
  obtain ⟨hset, hbud⟩ := hs
  refine ⟨?_, h.budget.sound hbud⟩
  unfold SettingsInv at hset ⊢
  rw [h.roundInterval, h.missLimit, h.tempSet, h.slewSet, h.protSet, h.showRec, h.budget.set]
  exact hset

theorem RoundStep.settings {s t : State} (h : RoundStep s t) : SettingsKept s t :=
  ⟨(congrArg ChainCtl.roundInterval h.chain :), (congrArg ChainCtl.missLimit h.chain :), h.tempSet, h.slewSet, h.protSet,
    h.showRec, h.budget⟩

variable (s : State)

theorem SettingsKept.of_ports (x : Ports) : SettingsKept s (s.setPorts x) := ⟨rfl, rfl, rfl, rfl, rfl, rfl, .refl _⟩
theorem SettingsKept.of_token (x : Token) : SettingsKept s (s.setToken x) := ⟨rfl, rfl, rfl, rfl, rfl, rfl, .refl _⟩
theorem SettingsKept.of_auth (x : Authority) : SettingsKept s (s.setAuth x) := ⟨rfl, rfl, rfl, rfl, rfl, rfl, .refl _⟩
theorem SettingsKept.of_tiles (x : Table Tile 64) : SettingsKept s (s.setTiles x) := ⟨rfl, rfl, rfl, rfl, rfl, rfl, .refl _⟩
theorem SettingsKept.of_store (x : Store) : SettingsKept s (s.setStore x) := ⟨rfl, rfl, rfl, rfl, rfl, rfl, .refl _⟩
theorem SettingsKept.of_wall (x : WallRec) : SettingsKept s (s.setWall x) := ⟨rfl, rfl, rfl, rfl, rfl, rfl, .refl _⟩
theorem SettingsKept.of_sweep (x : SweepRec) : SettingsKept s (s.setSweep x) := ⟨rfl, rfl, rfl, rfl, rfl, rfl, .refl _⟩
theorem SettingsKept.of_activity (a : Activity) : SettingsKept s (s.setActivity a) := ⟨rfl, rfl, rfl, rfl, rfl, rfl, .refl _⟩

theorem SettingsKept.of_touch (p : Port) : SettingsKept s (touch p s) := by rw [touch_eq]; exact .of_auth s _

theorem SettingsKept.of_complete (p : Port) (n : ReqName) (v : Verdict) (why : Option Reason) (d : ResultData) :
    SettingsKept s (complete p n v why d s) := .of_ports s _

/-- An event's effect and the notices at its end. -/
theorem SettingsKept.event {f : State → State} (h : SettingsKept s (f s)) : SettingsKept s (event f s) :=
  h.trans (.of_ports _ _)

theorem SettingsKept.foldl {α : Type} {f : State → α → State} (h : ∀ s x, SettingsKept s (f s x)) (xs : List α) :
    SettingsKept s (xs.foldl f s) := by
  induction xs generalizing s with
  | nil => exact .refl s
  | cons x xs ih => exact (h s x).trans (ih _)

/-! ## Authority -/

theorem SettingsKept.of_passAuthority (why : LastChange) : SettingsKept s (passAuthority why s) := by
  rw [passAuthority_frame]
  exact ⟨rfl, rfl, rfl, rfl, rfl, rfl, .refl _⟩

theorem SettingsKept.of_claim (p : Port) (wait : Bool) : SettingsKept s (doClaim p wait s) := by
  unfold doClaim
  split
  · unfold claimBy
    split
    · exact ((SettingsKept.of_auth s _).trans (.of_ports _ _)).trans (.of_ports _ _)
    · split
      · exact .of_complete s _ _ _ _ _
      · split
        · exact ((SettingsKept.of_auth s _).trans (.of_ports _ _)).trans (.of_ports _ _)
        · exact .of_complete s _ _ _ _ _
  · exact .of_complete s _ _ _ _ _

theorem SettingsKept.of_freeze (p : Port) (k : Key) : SettingsKept s (doFreeze p k s) := by
  unfold doFreeze
  split
  · exact ((SettingsKept.of_auth s _).trans (.of_ports _ _)).trans (.of_ports _ _)
  · split <;> exact .of_complete s _ _ _ _ _

theorem SettingsKept.of_thaw (p : Port) (k : Key) : SettingsKept s (doThaw p k s) := by
  unfold doThaw
  split
  · exact .of_complete s _ _ _ _ _
  · split
    · exact ((SettingsKept.of_auth s _).trans (.of_ports _ _)).trans (.of_ports _ _)
    · exact .of_complete s _ _ _ _ _

theorem SettingsKept.of_expireTimer (q : Prog) : SettingsKept s (expireTimer q s) := by
  unfold expireTimer
  dsimp only
  split
  · exact (SettingsKept.of_auth s _).trans (.of_passAuthority _ _)
  · exact .of_auth s _

/-! ## Jobs -/

theorem SettingsKept.of_cutSweep (v : Verdict) (why : Option Reason) : SettingsKept s (cutSweep v why s) := by
  unfold cutSweep
  split
  · dsimp only
    refine SettingsKept.trans ?_ (RoundStep.of_endSweep _ v why).settings
    split <;> exact ⟨rfl, rfl, rfl, rfl, rfl, rfl, .refl _⟩
  · exact (RoundStep.of_endSweep s v why).settings

theorem SettingsKept.of_preempt : SettingsKept s (preempt s) := by
  unfold preempt
  split
  · exact .of_cutSweep s _ _
  · exact .refl s
  · exact .refl s

theorem SettingsKept.of_sendEnum0 : SettingsKept s (sendEnum0 s) := ⟨rfl, rfl, rfl, rfl, rfl, rfl, .refl _⟩

theorem SettingsKept.of_endRelearn (v : Verdict) (why : Option Reason) (d : ResultData) : SettingsKept s (endRelearn v why d s) := by
  unfold endRelearn
  dsimp only
  split
  · exact (SettingsKept.of_complete s _ _ _ _ _).trans (.of_token _ _)
  · exact .of_token s _

theorem SettingsKept.of_sweepRequest (p : Port) (x : SweepParams) : SettingsKept s (doSweep p x s) := by
  unfold doSweep
  split
  · exact .of_complete s _ _ _ _ _
  · exact (((SettingsKept.of_preempt s).trans (.of_sweep _ _)).trans (.of_token _ _)).trans (.of_ports _ _)

theorem SettingsKept.of_relearn (p : Port) (u : Unit) : SettingsKept s (doRelearn p u s) := by
  have h : SettingsKept s (hold p .relearn ((preempt s).setToken (.relearn (some p)))) :=
    ((SettingsKept.of_preempt s).trans (.of_token _ _)).trans (.of_ports _ _)
  unfold doRelearn
  dsimp only
  split
  · exact h.trans (.of_sendEnum0 _)
  · exact h

theorem SettingsKept.of_cancelJob : SettingsKept s (cancelJob s) := by
  unfold cancelJob
  split
  · exact .refl s
  · exact (RoundStep.of_endSweep s _ _).settings
  · exact .of_endRelearn s _ _ _

theorem SettingsKept.of_restartChain (p : Port) (u : Unit) : SettingsKept s (doRestartChain p u s) := by
  have hrest : SettingsKept (cancelJob s) (restartEffects s) := by
    unfold restartEffects
    generalize cancelJob s = v
    exact ⟨rfl, rfl, rfl, rfl, rfl, rfl, Budget.restart_kept _⟩
  exact ((SettingsKept.of_cancelJob s).trans hrest).trans (.of_complete _ _ _ _ _ _)

theorem SettingsKept.of_abort (p : Port) : SettingsKept s (doAbort p s) := by
  unfold doAbort
  split
  · exact .refl s
  · split
    · exact .refl s
    · unfold abortRequest
      split
      · exact ((SettingsKept.of_auth s _).trans (.of_ports _ _)).trans (.of_ports _ _)
      · unfold abortSweep
        split
        · exact .of_ports s _
        · exact (RoundStep.of_endSweep s _ _).settings
      · unfold abortRelearn
        split
        · exact .of_ports s _
        · exact .of_endRelearn s _ _ _
      · exact .of_ports s _

/-! ## The store -/

theorem SettingsKept.of_putProfile (p : Port) (x : PutBlock) : SettingsKept s (doPutProfile p x s) := by
  have hput : ∀ k, SettingsKept s (putAt p k x s) := by
    intro k
    unfold putAt
    split
    · exact .of_complete s _ _ _ _ _
    · exact (SettingsKept.of_store s _).trans (.of_ports _ _)
  unfold doPutProfile
  split
  · exact .of_complete s _ _ _ _ _
  · split
    · split
      · exact .of_complete s _ _ _ _ _
      · exact hput _
    · exact hput _

theorem SettingsKept.of_dropProfile (p : Port) (k : Nat) : SettingsKept s (doDropProfile p k s) := by
  unfold doDropProfile
  split
  · exact .of_complete s _ _ _ _ _
  · split
    · exact .of_complete s _ _ _ _ _
    · split
      · exact .of_complete s _ _ _ _ _
      · exact (SettingsKept.of_store s _).trans (.of_ports _ _)

theorem SettingsKept.of_putMap (p : Port) (x : Pos × Option Slot) : SettingsKept s (doPutMap p x s) := by
  unfold doPutMap
  split
  · exact .of_complete s _ _ _ _ _
  · split
    · exact .of_complete s _ _ _ _ _
    · exact (SettingsKept.of_store s _).trans (.of_ports _ _)

theorem SettingsKept.of_clearMap (p : Port) (u : Unit) : SettingsKept s (doClearMap p u s) := by
  unfold doClearMap
  split
  · exact .of_complete s _ _ _ _ _
  · exact (SettingsKept.of_store s _).trans (.of_ports _ _)

theorem SettingsKept.of_tryBindIf (p : SlotRec → Bool) (i : Slot) : SettingsKept s (tryBindIf p s i) := by
  unfold tryBindIf
  split
  · rw [tryBind_frame]; exact .of_tiles s _
  · exact .refl s

theorem SettingsKept.of_report (op : WriteOp) (issuer : Option Port) (before : State) :
    SettingsKept s (op.report issuer before s) := by
  unfold WriteOp.report
  split
  case h_1 => exact (RoundStep.of_reportSense s _ _).settings
  case h_2 | h_3 | h_4 | h_5 => exact .of_complete s _ _ _ _ _
  case h_6 | h_7 | h_8 | h_9 => exact .refl s

theorem SettingsKept.of_completeWrite (w : StoreWrite) : SettingsKept s (completeWrite w s) := by
  have hres : ∀ s, SettingsKept s (resolveAfter w.op s) := by
    intro s
    unfold resolveAfter
    split
    · exact .of_tiles s _
    · exact .refl s
  have hset : SettingsKept s ((s.setStore (w.op.apply s.store)).setInverse (w.op.inverse s.store s.inverse)) :=
    ⟨rfl, rfl, rfl, rfl, rfl, rfl, .refl _⟩
  have hbind : ∀ s, SettingsKept s ((retryWaiting s).noticeAll { store := true }) := fun s =>
    (SettingsKept.foldl s (fun s i => .of_tryBindIf s _ i) _).trans (.of_ports _ _)
  exact (((hset.trans (hres _)).trans (hbind _)).trans (.of_report _ _ _ _)).trans (RoundStep.of_startQueue _ _).settings

/-! ## The chain -/

theorem SettingsKept.of_missAt (i : Slot) : SettingsKept s (missAt i s) := .of_tiles s _

theorem SettingsKept.of_answeredAt (i : Slot) : SettingsKept s (answeredAt i s) := .of_tiles s _

theorem SettingsKept.of_pollReplied (i : Slot) (temp : Option Int) (fault : Bool) (hours load : Nat) (echo : RGB Nat) :
    SettingsKept s (pollReplied i temp fault hours load echo s) := by
  have harr : ∀ (sel : Option Selection) (s : State), SettingsKept s (arrivalSample i sel s) := by
    intro sel s
    unfold arrivalSample
    dsimp only
    split <;> exact .of_tiles s _
  have hread : ∀ s : State, SettingsKept s (arrivalReading i temp fault hours load s) := fun s => .of_tiles s _
  have hstate : ∀ u : State, SettingsKept u (settleSlot s i (u.putTile i (pollState u.protSet.lostPolicy (u.tile i)))) :=
    fun u => (SettingsKept.of_tiles u _).trans (.of_tiles _ _)
  have hconf : SettingsKept s (s.putTile i (pollConfirm echo (s.tile i))) := .of_tiles s _
  exact ((hconf.trans (hread _)).trans (harr _ _)).trans (hstate _)

theorem SettingsKept.of_adoptReplied (i : Slot) (serial : Serial) : SettingsKept s (adoptReplied i serial s) := by
  unfold adoptReplied
  dsimp only
  split
  · exact .of_tiles s _
  · unfold joinByAdopt
    rw [tryBind_frame]
    exact (SettingsKept.of_tiles s _).trans (.of_tiles _ _)

theorem SettingsKept.of_bindEnumerated (n : Nat) : SettingsKept s (bindEnumerated n s) :=
  .foldl s (fun s i => .of_tryBindIf s _ i) _

theorem SettingsKept.of_abortEnumeration (n : Nat) : SettingsKept s (abortEnumeration n s) := by
  have h : SettingsKept (bindEnumerated n s) (leaveEnumeration (bindEnumerated n s)) := ⟨rfl, rfl, rfl, rfl, rfl, rfl, .refl _⟩
  exact ((SettingsKept.of_bindEnumerated s n).trans h).trans (.of_endRelearn _ _ _ _)

theorem SettingsKept.of_completeEnumeration (n : Nat) (long : Bool) : SettingsKept s (completeEnumeration n long s) := by
  have hlong : SettingsKept s (s.setChain { s.chain with chainLong := long }) := ⟨rfl, rfl, rfl, rfl, rfl, rfl, .refl _⟩
  have hleave : ∀ s : State, SettingsKept s (leaveEnumeration (s.setChain { s.chain with tileCount := n })) :=
    fun _ => ⟨rfl, rfl, rfl, rfl, rfl, rfl, .refl _⟩
  have hcond : ∀ s : State, SettingsKept s (s.noticeAll { cond := long }) := fun s => .of_ports s _
  have hbind := hlong.trans ((hcond _).trans (SettingsKept.of_bindEnumerated _ 64))
  unfold completeEnumeration
  dsimp only at hbind ⊢
  generalize bindEnumerated 64 _ = u at hbind ⊢
  exact (hbind.trans (hleave u)).trans (.of_endRelearn _ _ _ _)

theorem SettingsKept.of_enumReplied (n : Nat) (serial : Serial) : SettingsKept s (enumReplied n serial s) := by
  unfold enumReplied
  split
  · exact .of_completeEnumeration s _ _
  · rename_i i _
    have h : SettingsKept s (notify s (s.putTile i (enumTile s.protSet.lostPolicy serial (s.tile i)))) :=
      (SettingsKept.of_tiles s _).trans (.of_ports _ _)
    dsimp only
    split
    · exact h.trans (.of_abortEnumeration _ _)
    · exact h.trans (.of_activity _ _)

theorem SettingsKept.of_enumUnanswered (n : Nat) : SettingsKept s (enumUnanswered n s) := by
  unfold enumUnanswered
  split
  · exact .of_completeEnumeration s _ _
  · split
    · exact .of_abortEnumeration s _
    · exact (SettingsKept.of_tiles s _).trans (.of_completeEnumeration _ _ _)

theorem SettingsKept.of_startRound : SettingsKept s (startRound s) := by
  have h : SettingsKept s (s.setChain { s.chain with roundTimer := some 0, startNow := false }) :=
    ⟨rfl, rfl, rfl, rfl, rfl, rfl, .refl _⟩
  exact h.trans (RoundStep.of_pollFrom _ _).settings

/-! ## Time -/

theorem SettingsKept.of_expireRetry (i : Slot) (cls : TimedClass) : SettingsKept s (expireRetry i cls s) :=
  (SettingsKept.of_tiles s _).trans (.of_tiles _ _)

theorem SettingsKept.of_tick : SettingsKept s (tick s) := by
  have haged : SettingsKept s s.aged := ⟨rfl, rfl, rfl, rfl, rfl, rfl, .refl _⟩
  have hlive : ∀ q s, SettingsKept s (expireDue q s) := by
    intro q s
    unfold expireDue
    split
    · exact .event s (.of_expireTimer s q)
    · exact .refl s
  have hretry : ∀ s x, SettingsKept s (retryDue s x) := by
    intro s x
    unfold retryDue
    split
    · exact .event s (.of_expireRetry s _ _)
    · exact .refl s
  have hchain : ∀ s, SettingsKept s (chainDue s) := by
    intro s
    unfold chainDue
    split
    · exact .of_sendEnum0 s
    · split
      · exact .event s (.of_startRound s)
      · exact .refl s
  unfold tick
  split
  · exact .refl s
  · exact ((((haged.trans (hlive _ _)).trans (hlive _ _)).trans (SettingsKept.foldl _ hretry _))).trans (hchain _)

end Sys2Proof.Machine
end

section
/-! Every step keeps the settings in range and the budget unit in line: the requests that set something, the commands that set nothing, and
the reset. -/

namespace Sys2Proof.Machine

variable (s : State)

/-! ## Posts and transactions -/

theorem SettingsKept.ite {c : Prop} [Decidable c] {t u : State} (ht : SettingsKept s t) (hu : SettingsKept s u) :
    SettingsKept s (if c then t else u) := by
  split
  · exact ht
  · exact hu

theorem SettingsKept.of_transaction {p : Port} {f : State → State} (hf : ∀ u, SettingsKept u (f u)) :
    SettingsKept s (transaction p f s) := by
  unfold transaction
  split
  · exact .refl s
  · exact (SettingsKept.of_touch s p).trans (hf _)

/-- A POST keeps the settings sound where its own effect does; its discarding and its refusals touch none of them. -/
theorem SettingsSound.posted {α : Type} {n : ReqName} {p : Port} {x : Option α} {f : α → State → State} (hs : SettingsSound s)
    (hf : ∀ v u, x = some v → SettingsSound u → SettingsSound (f v u)) : SettingsSound (posted n p x f s) := by
  have htouch : SettingsSound (touch p s) := (SettingsKept.of_touch s p).sound hs
  refine SettingsKept.sound (.of_ports _ _) (?_ : SettingsSound (post n p (withBlock n p x f) s))
  rcases post_cases s n p x f with ⟨_, h⟩ | ⟨_, _, h⟩ | ⟨_, why, _, h⟩ | ⟨_, _, h⟩ | ⟨_, v, hx, h⟩ <;> rw [h]
  · exact hs
  · exact (SettingsKept.of_ports _ _).sound htouch
  · exact (SettingsKept.of_complete _ _ _ _ _ _).sound htouch
  · exact (SettingsKept.of_complete _ _ _ _ _ _).sound htouch
  · exact hf v _ hx htouch

/-- A POST of a request that touches no setting. -/
theorem SettingsSound.posted_kept {α : Type} {n : ReqName} {p : Port} {x : Option α} {f : α → State → State} (hs : SettingsSound s)
    (hf : ∀ v u, SettingsKept u (f v u)) : SettingsSound (Machine.posted n p x f s) :=
  hs.posted s fun v u _ hu => (hf v u).sound hu

/-! ## The settings requests -/

theorem SettingsSound.of_setShow (p : Port) {b : List Byte} {x : ShowBlock} (hx : readShow b = some x) (hs : SettingsSound s) :
    SettingsSound (doSetShow p x s) := by
  have hset : SettingsSound (s.setShowRec (showAfter x s.showRec)) := by
    obtain ⟨⟨hchain, htemp, hslew, hprot, hbud, hshow⟩, hb⟩ := hs
    exact ⟨⟨hchain, htemp, hslew, hprot, hbud, showAfter_inRange hx hshow⟩, hb⟩
  have hm : ∀ old u, SettingsKept u (showM old u) := by
    intro old u
    unfold showM
    split
    · exact .refl u
    · dsimp only
      split
      · exact (SettingsKept.of_tiles u _).trans (.of_cutSweep _ _ _)
      · exact .of_tiles u _
  have hw : ∀ old u, SettingsKept u (showWant old u) := by
    intro old u
    unfold showWant
    split
    · exact .refl u
    · exact .of_wall u _
  have ht : ∀ old u, SettingsKept u (showTimeout old u) := by
    intro old u
    unfold showTimeout
    split
    · exact .refl u
    · exact .of_auth u _
  exact SettingsKept.sound ((((hm _ _).trans (hw _ _)).trans (ht s.showRec _)).trans (.of_complete _ _ _ _ _ _)) hset

theorem SettingsSound.of_setBudget (p : Port) {b : List Byte} {x : BudgetBlock} (hx : readBudget b = some x)
    (hs : SettingsSound s) : SettingsSound (doSetBudget p x s) := by
  have hkeep : ∀ y : Budget, (Budget.afterSet s.budget y).set = y.set := by
    intro y
    unfold Budget.afterSet
    split
    · rfl
    · split <;> rfl
  have hset : SettingsSound (s.setBudget (Budget.afterSet s.budget { s.budget with set := budgetAfter x s.budget.set })) := by
    obtain ⟨⟨hchain, htemp, hslew, hprot, hbud, hshow⟩, hb⟩ := hs
    refine ⟨⟨hchain, htemp, hslew, hprot, ?_, hshow⟩, Budget.afterSet_sound _ _ hb⟩
    rw [State.setBudget_budget, hkeep]
    exact budgetAfter_inRange hx hbud
  unfold doSetBudget
  dsimp only
  refine (SettingsKept.of_complete _ _ _ _ _ _).sound ?_
  split
  · exact hset
  · exact (SettingsKept.of_tiles _ _).sound hset

theorem SettingsKept.of_setTrack (p : Port) (x : TrackBlock) : SettingsKept s (doSetTrack p x s) := by
  unfold doSetTrack
  split
  · exact (SettingsKept.of_tiles s _).trans (.of_ports _ _)
  · exact .of_complete s _ _ _ _ _

theorem SettingsSound.of_setSlew (p : Port) (x : SlewBlock) (hs : SettingsSound s) : SettingsSound (doSetSlew p x s) := by
  obtain ⟨⟨hchain, htemp, hslew, hprot, hbud, hshow⟩, hb⟩ := hs
  exact ⟨⟨hchain, htemp, slewAfter_inRange x hslew, hprot, hbud, hshow⟩, hb⟩

theorem SettingsSound.of_setTemp (p : Port) (x : TempBlock) (hs : SettingsSound s) : SettingsSound (doSetTemp p x s) := by
  have hset : SettingsSound (s.setTempSet (tempAfter x s.tempSet)) := by
    obtain ⟨⟨hchain, htemp, hslew, hprot, hbud, hshow⟩, hb⟩ := hs
    exact ⟨⟨hchain, tempAfter_inRange x htemp, hslew, hprot, hbud, hshow⟩, hb⟩
  unfold doSetTemp
  dsimp only
  refine (SettingsKept.of_complete _ _ _ _ _ _).sound ?_
  split
  · exact hset
  · exact (SettingsKept.of_tiles _ _).sound hset

theorem SettingsSound.of_setProtect (p : Port) (x : ProtBlock) (hs : SettingsSound s) : SettingsSound (doSetProtect p x s) := by
  obtain ⟨⟨⟨hr, hr', hm, hm'⟩, htemp, hslew, hprot, hbud, hshow⟩, hb⟩ := hs
  obtain ⟨miss, miss'⟩ := setTo_clampNat x.missLimit (show 1 ≤ 15 by omega) ⟨hm, hm'⟩
  obtain ⟨round, round'⟩ := setTo_clampNat x.roundInterval (show 10 ≤ 1000 by omega) ⟨hr, hr'⟩
  exact ⟨⟨⟨round, round', miss, miss'⟩, htemp, hslew, protectAfter_inRange x hprot, hbud, hshow⟩, hb⟩

theorem SettingsKept.of_clearFaults (p : Port) (target : Option Slot) : SettingsKept s (doClearFaults p target s) := by
  exact .ite s (.of_complete s _ _ _ _ _) ⟨rfl, rfl, rfl, rfl, rfl, rfl, clearBudget_kept _ _⟩

/-! ## Reset -/

/-- Every setting starts in its range and the budget unit starts OFF (R24, R79, R122, R146, R160, R190). -/
theorem settingsSound_of_defaults (hc : s.chain.InRange) (ht : s.tempSet = {}) (hl : s.slewSet = {}) (hp : s.protSet = {})
    (hb : s.budget = {}) (hr : s.showRec = {}) : SettingsSound s := by
  refine ⟨(settingsInv_iff s).mpr ⟨hc, ?_⟩, ?_⟩
  · rw [ht, hl, hp, hb, hr]
    unfold TempSettings.InRange SlewSettings.InRange ProtSettings.InRange BudgetSettings.InRange ShowRec.InRange RGB.within
    decide
  · rw [budgetInv_iff, hb]
    unfold Budget.Sound
    decide

theorem ChainCtl.InRange.of_defaults (a : Activity) : ({ activity := a } : ChainCtl).InRange := by
  unfold ChainCtl.InRange
  dsimp only
  omega

theorem settingsSound_of_hardReset (cause : ResetCause) (cut : List CutOutcome) :
    ∃ t, execHardReset cause cut s = .next t ∧ SettingsSound t := by
  cases cause with
  | powerUp => exact ⟨_, rfl, settingsSound_of_defaults _ (.of_defaults _) rfl rfl rfl rfl rfl⟩
  | resetnLow => exact ⟨_, rfl, settingsSound_of_defaults _ (.of_defaults _) rfl rfl rfl rfl rfl⟩

theorem SettingsKept.of_endReset : SettingsKept s (endReset s) := ⟨rfl, rfl, rfl, rfl, rfl, rfl, .refl _⟩

/-! ## The commands of the chain -/

theorem SettingsKept.of_eventIf {f : State → State} {c : Bool} (hf : SettingsKept s (f s)) :
    SettingsKept s (if c then Machine.event f s else s) := .ite s (.event s hf) (.refl s)

/-- Each reply, window expiry and start on the chain keeps every setting. -/
theorem SettingsKept.of_chainCommand {c : Instr} (h : transactionOn c = none) (hr : ∀ cause cut, c ≠ .hardReset cause cut) :
    ∃ t, exec c s = .next t ∧ SettingsKept s t := by
  cases c with
  | hardReset cause cut => exact absurd rfl (hr cause cut)
  | roundStart => exact ⟨_, rfl, .of_eventIf s (.of_startRound s)⟩
  | relearnEnumerationStart => exact ⟨_, rfl, .ite s (.of_sendEnum0 s) (.refl s)⟩
  | pollReply temp fault hours load echo =>
    refine ⟨_, rfl, ?_⟩
    split
    · exact .of_eventIf s ((SettingsKept.of_pollReplied s _ _ _ _ _ _).trans (RoundStep.of_pollFrom _ _).settings)
    · exact .refl s
  | pollMiss =>
    refine ⟨_, rfl, ?_⟩
    split
    · exact .event s ((SettingsKept.of_missAt s _).trans (RoundStep.of_pollFrom _ _).settings)
    · exact .refl s
  | pushReply echo =>
    refine ⟨_, rfl, ?_⟩
    split
    · exact .of_eventIf s ((SettingsKept.of_tiles s _).trans (RoundStep.of_pushFrom _ _).settings)
    · exact .refl s
  | pushMiss =>
    refine ⟨_, rfl, ?_⟩
    split
    · exact .event s ((SettingsKept.of_missAt s _).trans (RoundStep.of_pushFrom _ _).settings)
    · exact .refl s
  | adoptReply serial =>
    refine ⟨_, rfl, ?_⟩
    split
    · exact .event s ((SettingsKept.of_adoptReplied s _ _).trans (RoundStep.of_probePhase _).settings)
    · exact .refl s
  | adoptNoReply =>
    refine ⟨_, rfl, ?_⟩
    split
    · exact .event s (RoundStep.of_probePhase s).settings
    · exact .refl s
  | enumReply serial =>
    refine ⟨_, rfl, ?_⟩
    split
    · exact .event s (.of_enumReplied s _ _)
    · exact .refl s
  | enumNoReply =>
    refine ⟨_, rfl, ?_⟩
    split
    · exact .event s (.of_enumUnanswered s _)
    · exact .refl s
  | patchReply =>
    refine ⟨_, rfl, ?_⟩
    split
    · rename_i i _ _
      exact .event s ((SettingsKept.of_answeredAt s i).trans (.ite _ (.of_activity _ _) (.of_activity _ _)))
    · exact .event s ((SettingsKept.of_answeredAt s _).trans (RoundStep.of_endProbeStep _ _ _ _).settings)
    · exact .refl s
  | patchMiss =>
    refine ⟨_, rfl, ?_⟩
    split
    · exact .event s ((SettingsKept.of_missAt s _).trans (.of_activity _ _))
    · exact .event s ((SettingsKept.of_missAt s _).trans (RoundStep.of_endProbeStep _ _ _ _).settings)
    · exact .refl s
  | settleWaitEnd =>
    refine ⟨_, rfl, ?_⟩
    split
    · split <;> exact .of_activity s _
    · exact .refl s
  | senseReply status count =>
    refine ⟨_, rfl, ?_⟩
    split
    · exact .of_eventIf s ((SettingsKept.of_answeredAt s _).trans (RoundStep.of_senseReplied _ _ _ _ _).settings)
    · exact .refl s
  | senseMiss =>
    refine ⟨_, rfl, ?_⟩
    split
    · exact .event s ((SettingsKept.of_missAt s _).trans (.of_activity _ _))
    · exact .refl s
  | storeWriteComplete =>
    refine ⟨_, rfl, ?_⟩
    split
    · exact .event s (.of_completeWrite s _)
    · exact .refl s
  | livenessTimerExpiry q => exact ⟨_, rfl, .of_eventIf s (.of_expireTimer s q)⟩
  | retryTimerExpiry i cls => exact ⟨_, rfl, .of_eventIf s (.of_expireRetry s i cls)⟩
  | resetnRelease => exact ⟨_, rfl, .ite s (.of_endReset s) (.refl s)⟩
  | _ => simp [transactionOn] at h

/-! ## Every command -/

/-- Each transaction of a port keeps the settings in range and the budget unit in line. -/
theorem SettingsSound.of_transactionCommand (c : Instr) (hc : transactionOn c ≠ none) (hs : SettingsSound s) :
    ∃ t, exec c s = .next t ∧ SettingsSound t := by
  cases c with
  | status p => exact ⟨_, rfl, (SettingsKept.of_transaction s fun u => .of_ports u _).sound hs⟩
  | read p kind i0 i1 => exact ⟨_, rfl, (SettingsKept.of_transaction s fun u => .of_ports u _).sound hs⟩
  | result p => exact ⟨_, rfl, (SettingsKept.of_transaction s fun u => .of_ports u _).sound hs⟩
  | abort p => exact ⟨_, rfl, (SettingsKept.of_transaction s fun u => .of_abort u p).sound hs⟩
  | discardedTransaction p => exact ⟨_, rfl, (SettingsKept.of_transaction s fun u => .refl u).sound hs⟩
  | claim p b => exact ⟨_, rfl, hs.posted_kept s fun v u => .of_claim u p v⟩
  | release p b => exact ⟨_, rfl, hs.posted_kept s fun _ u => (SettingsKept.of_passAuthority u _).trans (.of_ports _ _)⟩
  | setShow p b => exact ⟨_, rfl, hs.posted s fun _ u hx => .of_setShow u p hx⟩
  | freeze p b => exact ⟨_, rfl, hs.posted_kept s fun v u => .of_freeze u p v⟩
  | thaw p b => exact ⟨_, rfl, hs.posted_kept s fun v u => .of_thaw u p v⟩
  | setBudget p b => exact ⟨_, rfl, hs.posted s fun _ u hx => .of_setBudget u p hx⟩
  | putProfile p b => exact ⟨_, rfl, hs.posted_kept s fun v u => .of_putProfile u p v⟩
  | dropProfile p b => exact ⟨_, rfl, hs.posted_kept s fun v u => .of_dropProfile u p v⟩
  | putMap p b => exact ⟨_, rfl, hs.posted_kept s fun v u => .of_putMap u p v⟩
  | clearMap p b => exact ⟨_, rfl, hs.posted_kept s fun v u => .of_clearMap u p v⟩
  | setTrack p b => exact ⟨_, rfl, hs.posted_kept s fun v u => .of_setTrack u p v⟩
  | setSlew p b => exact ⟨_, rfl, hs.posted s fun v u _ => .of_setSlew u p v⟩
  | setTemp p b => exact ⟨_, rfl, hs.posted s fun v u _ => .of_setTemp u p v⟩
  | setProtect p b => exact ⟨_, rfl, hs.posted s fun v u _ => .of_setProtect u p v⟩
  | clearFaults p b => exact ⟨_, rfl, hs.posted_kept s fun v u => .of_clearFaults u p v⟩
  | sweep p b => exact ⟨_, rfl, hs.posted_kept s fun v u => .of_sweepRequest u p v⟩
  | relearn p b => exact ⟨_, rfl, hs.posted_kept s fun v u => .of_relearn u p v⟩
  | restartChain p b => exact ⟨_, rfl, hs.posted_kept s fun v u => .of_restartChain u p v⟩
  | setNotice p b =>
    exact ⟨_, rfl, hs.posted_kept s fun v u => (SettingsKept.of_ports u _).trans (.of_ports _ _)⟩
  | unknownRequestPost p code b =>
    have hpost : ∀ u, SettingsKept u (unknownPost p code u) := fun u => .ite u (.of_ports u _) (.of_ports u _)
    exact ⟨_, rfl, (SettingsKept.ite s (.refl s) (.of_transaction s hpost)).sound hs⟩
  | _ => exact absurd rfl hc

/-- Every command answers a next state with the settings in range and the budget unit in line. -/
theorem exec_settingsSound (c : Instr) (hs : SettingsSound s) : ∃ t, exec c s = .next t ∧ SettingsSound t := by
  by_cases hp : transactionOn c = none
  · by_cases hr : ∃ cause cut, c = .hardReset cause cut
    · obtain ⟨cause, cut, rfl⟩ := hr
      exact settingsSound_of_hardReset s cause cut
    · obtain ⟨t, ht, hk⟩ := SettingsKept.of_chainCommand s hp fun cause cut h => hr ⟨cause, cut, h⟩
      exact ⟨t, ht, hk.sound hs⟩
  · exact SettingsSound.of_transactionCommand s c hp hs

end Sys2Proof.Machine

open Sys2Proof Sys2Proof.Machine

/-- Settles O56: each command is shown to keep every setting or, where it sets some, to clamp them; time that passes keeps them all. -/
theorem stepKeepsSettingsAndBudget : Obligations.StepKeepsSettingsAndBudget := by
  intro s t hset hbud hstep
  have hs : SettingsSound s := ⟨hset, hbud⟩
  unfold step at hstep
  split at hstep
  · rename_i c rest _
    obtain ⟨u, hu, hsound⟩ := exec_settingsSound (s.setPending rest) c hs
    rw [hu] at hstep
    cases hstep
    exact hsound
  · cases hstep
    exact (SettingsKept.of_tick s).sound hs

end

section
/-! Hard reset (R24, R30, R31, R51): what verification and the building of the inverse leave, and the state they lead to. -/

namespace Sys2Proof

theorem Table.count_fill {α : Type} (n : Nat) (v : α) (p : α → Bool) (h : p v = false) : (Table.fill n v).count p = 0 := by
  unfold Table.count Table.fill
  rw [List.length_eq_zero_iff, List.filter_eq_nil_iff]
  intro x hx
  rw [List.eq_of_mem_replicate hx, h]
  simp

theorem Table.map_fill {α β : Type} (n : Nat) (v : α) (f : α → β) : (Table.fill n v).map f = Table.fill n (f v) :=
  Table.ext_get fun i => by simp

end Sys2Proof

namespace Sys2Proof.Machine

/-! ## The store through a hard reset -/

/-- Verification discards only what fails its check, so every good record stands (R31). -/
theorem profile_verify (st : Store) (k : Nat) : st.verify.profile k = st.profile k := by
  by_cases h : 1 ≤ k ∧ k ≤ 96
  · unfold Store.profile Store.verify
    rw [dif_pos h, dif_pos h]
    dsimp only
    rw [Table.get_map]
    cases st.profiles.get ⟨k - 1, by omega⟩ <;> rfl
  · rw [profile_outside _ _ h, profile_outside _ _ h]

/-- Verification makes EMPTY only what fails its check, so every good entry stands (R31). -/
theorem entry_verify (st : Store) (x : Pos) : st.verify.entry x = st.entry x := by
  unfold Store.entry Store.verify
  dsimp only
  rw [Table.get_map]
  cases st.map.get x.number <;> rfl

/-- With no write in flight a hard reset cuts nothing off (R30). -/
theorem hardReset_of_idle {st : Store} (cut : List CutOutcome) (h : st.write = none) :
    st.hardReset cut = { profiles := st.profiles, map := st.map } := by
  unfold Store.hardReset
  rw [h]

/-- An erased store has nothing to lose. -/
theorem verify_erased : ({} : Store).verify = {} := by
  have hlost : (({} : Store).profiles.entries.filterMap fun x => if x.2 == .failing then some (x.1.val + 1) else none) = [] := by
    rw [List.filterMap_eq_nil_iff]
    rintro ⟨i, v⟩ hv
    have hempty : v = .empty := by rw [← (Table.mem_entries _ _ _).mp hv, Table.get_fill]
    simp [hempty]
  unfold Store.verify
  rw [hlost, Table.map_fill, Table.map_fill, Table.count_fill _ _ _ rfl, Table.count_fill _ _ _ rfl]
  rfl

/-! ## The inverse -/

/-- One entry's part in the building of the inverse (R51). -/
def placeEntry (inv : Table (Option Pos) 64) (x : Fin 256 × MapCell) : Table (Option Pos) 64 :=
  match x.2.names with
  | some i => inv.put i (some (posAt x.1))
  | none => inv

theorem buildInverse_eq (m : Table MapCell 256) : buildInverse m = m.entries.foldl placeEntry (Table.fill 64 none) := rfl

/-- An entry places the slot it names, and moves no other. -/
theorem placeEntry_get (inv : Table (Option Pos) 64) (x : Fin 256 × MapCell) (i : Slot) :
    (placeEntry inv x).get i = if x.2.names = some i then some (posAt x.1) else inv.get i := by
  unfold placeEntry
  cases x.2.names with
  | none => simp
  | some j =>
    simp only [Table.get_put, Option.some.injEq]
    by_cases h : i = j <;> simp [h, eq_comm]

/-- A place in the built inverse comes from an entry that names the slot, or stood before. -/
theorem foldl_placeEntry_some (xs : List (Fin 256 × MapCell)) (inv : Table (Option Pos) 64) (i : Slot) (x : Pos)
    (h : (xs.foldl placeEntry inv).get i = some x) :
    inv.get i = some x ∨ ∃ y ∈ xs, y.2.names = some i ∧ posAt y.1 = x := by
  induction xs generalizing inv with
  | nil => exact .inl h
  | cons y ys ih =>
    rcases ih (placeEntry inv y) h with h | ⟨z, hz, hn, hx⟩
    · rw [placeEntry_get] at h
      split at h
      · exact .inr ⟨y, by simp, ‹_›, Option.some.inj h⟩
      · exact .inl h
    · exact .inr ⟨z, List.mem_cons_of_mem _ hz, hn, hx⟩

/-- A slot that the built inverse has at no place is named by no entry. -/
theorem foldl_placeEntry_none (xs : List (Fin 256 × MapCell)) (inv : Table (Option Pos) 64) (i : Slot)
    (h : (xs.foldl placeEntry inv).get i = none) : inv.get i = none ∧ ∀ y ∈ xs, y.2.names ≠ some i := by
  induction xs generalizing inv with
  | nil => exact ⟨h, by simp⟩
  | cons y ys ih =>
    obtain ⟨hinv, hys⟩ := ih (placeEntry inv y) h
    rw [placeEntry_get] at hinv
    split at hinv
    · exact absurd hinv (by simp)
    · exact ⟨hinv, fun z hz => by
        rcases List.mem_cons.mp hz with rfl | hz
        · assumption
        · exact hys z hz⟩

/-- The inverse places a slot only where an entry names it (R51). -/
theorem entry_of_buildInverse (st : Store) (i : Slot) (x : Pos) (h : (buildInverse st.map).get i = some x) :
    st.entry x = some i := by
  rw [buildInverse_eq] at h
  rcases foldl_placeEntry_some _ _ _ _ h with h | ⟨⟨n, c⟩, hmem, hname, hx⟩
  · simp at h
  · have hc := (Table.mem_entries _ _ _).mp hmem
    unfold Store.entry
    rw [← hx, number_posAt, hc]
    exact hname

/-- A slot with no place in the inverse is named by no entry (R51). -/
theorem entry_ne_of_buildInverse (st : Store) (i : Slot) (h : (buildInverse st.map).get i = none) (x : Pos) :
    st.entry x ≠ some i := by
  rw [buildInverse_eq] at h
  exact (foldl_placeEntry_none _ _ _ h).2 (x.number, st.map.get x.number) ((Table.mem_entries _ _ _).mpr rfl)

theorem entry_erased (x : Pos) : ({} : Store).entry x = none := by
  unfold Store.entry
  rw [Table.get_fill]
  rfl

/-- An erased map leaves every slot UNMAPPED. -/
theorem buildInverse_erased : buildInverse ({} : Store).map = Table.fill 64 none := by
  refine Table.ext_get fun i => ?_
  rw [Table.get_fill]
  cases h : (buildInverse ({} : Store).map).get i with
  | none => rfl
  | some x => exact absurd (entry_of_buildInverse _ _ _ h) (by simp [entry_erased])

/-! ## The hard-reset state -/

/-- A reset tile: every record in its hard-reset state (R24, R79, R104, R122, R146). -/
theorem tile_of_fill (s : State) (h : s.tiles = Table.fill 64 {}) (i : Slot) : s.tile i = {} := by
  unfold State.tile
  rw [h, Table.get_fill]

theorem conds_of_default : ∀ c ∈ ({} : ProtRec).conds, c = ⟨false, false, false⟩ := by decide

/-- Until verification the store keeps its records and entries where no write was in flight (R30). -/
theorem underReset_store {s : State} (cut : List CutOutcome) (h : s.store.write = none) :
    (∀ k, (underReset cut s).store.profile k = s.store.profile k) ∧ ∀ x, (underReset cut s).store.entry x = s.store.entry x := by
  have e : (underReset cut s).store = { profiles := s.store.profiles, map := s.store.map } := hardReset_of_idle cut h
  rw [e]
  exact ⟨fun _ => rfl, fun _ => rfl⟩

/-- Power-up of the part in its reset state leaves it there. -/
theorem powerUp_reset (cut : List CutOutcome) : exec (.hardReset .powerUp cut) State.reset = .next State.reset := by
  have hcut : State.reset.store.hardReset cut = {} := hardReset_of_idle cut rfl
  have hend : endReset (underReset cut State.reset) = State.reset := by
    unfold endReset underReset
    dsimp only
    rw [hcut, verify_erased, buildInverse_erased]
    rfl
  show Host.Outcome.next (endReset (underReset cut State.reset)) = _
  rw [hend]

/-! ## The reset state -/

theorem port_reset (p : Port) : State.reset.port p = PortRec.reset := by
  rcases p with (_ | _) | _ <;> rfl

theorem tile_reset (i : Slot) : State.reset.tile i = {} := tile_of_fill _ rfl i

theorem coefInv_reset : CoefInv State.reset := by
  refine ⟨fun i => ?_, fun i c h => by simp [State.reset] at h⟩
  rw [tile_reset]
  exact ⟨fun v h => by simp at h, fun v h => by simp at h⟩

theorem gainInv_reset : GainInv State.reset := by
  intro i
  rw [tile_reset]
  exact ⟨fun v h => by simp at h, by unfold RGB.within; decide, fun v h => by simp at h⟩

theorem flagsInv_reset : FlagsInv State.reset := by
  intro i c hc ha
  rw [tile_reset] at hc
  rw [conds_of_default c hc] at ha
  exact absurd ha (by simp)

theorem factorInv_reset : FactorInv State.reset := by
  intro i
  rw [tile_reset]
  decide

theorem settingsSound_reset : SettingsSound State.reset := settingsSound_of_defaults _ (.of_defaults _) rfl rfl rfl rfl rfl

theorem mapInv_reset : MapInv State.reset :=
  ⟨fun x _ _ h => absurd ((entry_erased x).symm.trans h) (by simp), fun _ _ _ h => absurd h (by simp [State.reset])⟩

theorem inverseInv_reset : InverseInv State.reset := by
  intro _ i x
  have hi : State.reset.inverse.get i = none := Table.get_fill _ _
  have hx : State.reset.store.entry x = none := entry_erased x
  simp [hi, hx]

theorem jobsInv_reset : JobsInv State.reset := by
  have hbusy : ∀ p, (State.reset.port p).busy = none := fun p => by rw [port_reset]; rfl
  have habort : ∀ p, (State.reset.port p).abortRequested = false := fun p => by rw [port_reset]; rfl
  have htoken : State.reset.token = .relearn none := rfl
  refine ⟨fun p => ?_, fun p => ?_, fun q => ?_, ?_, fun q h => ?_, fun w h => ?_, fun w p h => ?_, fun p n h => ?_, fun h => ?_,
    fun p h => ?_, fun _ => ⟨none, rfl⟩, fun p _ => habort p, fun h => ?_⟩
  · simp [hbusy, htoken]
  · simp [hbusy, htoken]
  · simp [hbusy, show State.reset.auth.standby = none from rfl]
  · simp [hbusy]
  · simp [State.reset] at h
  · simp [State.reset] at h
  · simp [State.reset] at h
  · simp [hbusy] at h
  · exact absurd rfl h
  · simp [htoken] at h
  · simp [State.reset] at h

end Sys2Proof.Machine

open Sys2Proof Sys2Proof.Machine

/-- Settles O2: both causes lead to the same blocks, and at power-up verification and the building of the inverse follow. -/
theorem hardResetRestoresEveryBlock : Obligations.HardResetRestoresEveryBlock := by
  refine ⟨fun cause cut s => ?_, powerUp_reset⟩
  have htile : ∀ t : State, t.tiles = Table.fill 64 {} → ∀ i,
      (t.tile i).chain = ⟨.vacant, none, 0, 0, none, false, none, false, none, none⟩
        ∧ (t.tile i).held = .none ∧ (t.tile i).temp = ⟨.absent, none, false, .absent, none, none, none, 0, 0, none⟩
        ∧ (t.tile i).eng = ⟨none, none, none, none, none, none, none, false, none, none, none, none, none, none, none, none, none,
            none, none⟩
        ∧ (t.tile i).slew = ⟨none, none, ⟨4096, 4096, 4096⟩, false, none⟩
        ∧ (∀ c ∈ (t.tile i).prot.conds, c = ⟨false, false, false⟩) ∧ (t.tile i).prot.hotAct = ⟨.none, none, none⟩
        ∧ (t.tile i).prot.sensorAct = ⟨.none, none, none⟩ ∧ (t.tile i).prot.overheatBlank = false
        ∧ (t.tile i).prot.probeReason = none ∧ (t.tile i).prot.probeChan = none ∧ (t.tile i).prot.p = 4096 := by
    intro t ht i
    rw [tile_of_fill t ht i]
    exact ⟨rfl, rfl, rfl, rfl, rfl, conds_of_default, rfl, rfl, rfl, rfl, rfl, rfl⟩
  cases cause with
  | powerUp =>
    refine ⟨endReset (underReset cut s), rfl, rfl, rfl, rfl, rfl, rfl, rfl, rfl, rfl, rfl, rfl, rfl, rfl, fun hw => ?_,
      htile _ rfl, fun _ => ⟨rfl, rfl, rfl, entry_of_buildInverse _, entry_ne_of_buildInverse _, ?_⟩, nofun⟩
    · obtain ⟨hprof, hentry⟩ := underReset_store cut hw
      exact ⟨fun k => (profile_verify _ k).trans (hprof k), fun x => (entry_verify _ x).trans (hentry x)⟩
    · rintro ((_ | _) | _) <;> rfl
  | resetnLow =>
    refine ⟨underReset cut s, rfl, rfl, rfl, rfl, rfl, rfl, rfl, rfl, rfl, rfl, rfl, rfl, rfl, underReset_store cut, htile _ rfl,
      nofun, fun _ => ⟨rfl, rfl, rfl, fun i => Table.get_fill _ i, ?_⟩⟩
    rintro ((_ | _) | _) <;> rfl

/-- Settles O53, invariant by invariant. -/
theorem resetMeetsTheInvariants : Obligations.ResetMeetsTheInvariants :=
  ⟨coefInv_reset, gainInv_reset, flagsInv_reset, factorInv_reset, settingsSound_reset.2, settingsSound_reset.1, mapInv_reset,
    inverseInv_reset, jobsInv_reset⟩

end

section
/-! The frames of a round (R4 to R15): which slot comes next, what a reply or a miss leaves at its slot, and the statements about
them. -/

namespace Sys2Proof

theorem Table.put_put {α : Type} {n : Nat} (t : Table α n) (i : Fin n) (v w : α) : (t.put i v).put i w = t.put i w := by
  refine Table.ext_get fun j => ?_
  rw [Table.get_put, Table.get_put, Table.get_put]
  split <;> rfl

/-- A slot list splits at each of its slots, the lower ones before it and the higher ones after it. -/
theorem slots_split (i : Slot) : ∃ lo hi, slots = lo ++ i :: hi ∧ (∀ j ∈ lo, j < i) ∧ ∀ j ∈ hi, i < j := by
  obtain ⟨lo, hi, h⟩ := List.append_of_mem (mem_slots i)
  have hp : (lo ++ i :: hi).Pairwise (· < ·) := h ▸ List.pairwise_lt_finRange 64
  rw [List.pairwise_append, List.pairwise_cons] at hp
  obtain ⟨_, ⟨hafter, _⟩, hbefore⟩ := hp
  exact ⟨lo, hi, h, fun j hj => hbefore j hj i (by simp), hafter⟩

/-- The search over the slots in ascending order finds the lowest that fits. -/
theorem find_slots_eq {p : Slot → Bool} {i : Slot} (hi : p i = true) (hlt : ∀ j, j < i → p j = false) :
    slots.find? p = some i := by
  obtain ⟨lo, hs, h, hlo, _⟩ := slots_split i
  rw [List.find?_eq_some_iff_append]
  exact ⟨hi, lo, hs, h, fun j hj => by simp [hlt j (hlo j hj)]⟩

end Sys2Proof

namespace Sys2Proof.Machine

variable (s : State)

/-- Two updates of one tile are the later one. -/
@[simp] theorem State.putTile_putTile (i : Slot) (x y : Tile) : (s.putTile i x).putTile i y = s.putTile i y := by
  simp [State.putTile, State.setTiles, Table.put_put]

theorem present_iff (t : Tile) : t.present = true ↔ t.chain.state ≠ .vacant := by simp [Tile.present]

/-- The poll phase goes on at the lowest slot from `k` up that is not VACANT (R4). -/
theorem pollFrom_eq {k : Nat} {i : Slot} (hk : k ≤ i.val) (hi : (s.tile i).chain.state ≠ .vacant)
    (hlt : ∀ j : Slot, k ≤ j.val → j < i → (s.tile j).chain.state = .vacant) : pollFrom k s = s.setActivity (.poll i) := by
  have h : slots.find? (fun j => decide (k ≤ j.val) && (s.tile j).present) = some i := by
    refine find_slots_eq (by simp [hk, (present_iff _).mpr hi]) fun j hj => ?_
    by_cases hkj : k ≤ j.val
    · simp [Tile.present, hlt j hkj hj]
    · simp [hkj]
  simp only [pollFrom, h]

/-- An event that moves one tile, and neither its state, its answering flag, its flags nor its actions, adds no notice. -/
theorem event_of_quietTile (f : State → State) (i : Slot) (x : Tile) (ht : (f s).tiles = s.tiles.put i x)
    (hstate : x.chain.state = (s.tile i).chain.state) (hans : x.chain.answering = (s.tile i).chain.answering)
    (hprot : x.prot = (s.tile i).prot) (hb : (f s).budget = s.budget) : event f s = f s := by
  have htile : ∀ j, (f s).tile j = if j = i then x else s.tile j := fun j => by
    unfold State.tile
    rw [ht, Table.get_put]
  refine notify_quiet (tileDue_false fun j => ?_) (condDue_false (fun j => ?_) (by rw [hb]) (by rw [hb]))
  · rw [htile]
    split
    · subst j
      simp [tileNotice, hstate, hans]
    · exact tileNotice_self _
  · rw [htile]
    split
    · subst j
      rw [hprot]
      exact ProtRec.sameFlags_self _
    · exact ProtRec.sameFlags_self _

/-! ## A miss -/

/-- A miss leaves serial, bound profile and confirmed coefficients (R9, R13). -/
theorem countMiss_frame (limit : Nat) (t : Tile) :
    (countMiss limit t).chain.serial = t.chain.serial ∧ (countMiss limit t).chain.bound = t.chain.bound
      ∧ (countMiss limit t).chain.confirmed = t.chain.confirmed := by
  unfold countMiss
  dsimp only
  split
  · split <;> exact ⟨rfl, rfl, rfl⟩
  · split <;> exact ⟨rfl, rfl, rfl⟩

/-- A slot that a miss makes LOST has its answering flag clear (R13). -/
theorem countMiss_answering_of_former (limit : Nat) (t : Tile) (f : FormerState) (hf : t.chain.state.former = some f)
    (hn : limit ≤ min 15 (t.chain.missCount + 1)) : (countMiss limit t).chain.answering = false := by
  simp only [countMiss, Tile.setChain_chain, hf, if_pos hn]
  rfl

/-- A miss at a LOST slot leaves it LOST and clears its answering flag (R13). -/
theorem countMiss_of_lost (limit : Nat) (t : Tile) (h : t.chain.state = .lost) :
    (countMiss limit t).chain.state = .lost ∧ (countMiss limit t).chain.answering = false := by
  simp only [countMiss, Tile.setChain_chain, h, SlotState.former, if_true]
  exact ⟨trivial, trivial⟩

@[simp] theorem tile_missAt_same (i : Slot) : (missAt i s).tile i = countMiss s.chain.missLimit (s.tile i) :=
  Table.get_put_same _ _ _

theorem tile_missAt_other (i j : Slot) (h : j ≠ i) : (missAt i s).tile j = s.tile j := State.tile_putTile_other _ _ _ _ h

/-- Where an event counts a miss at a slot and then goes on with its round, the slot's record is as R9 and R13 say. -/
theorem missCounted (i : Slot) {t : State} (h : RoundStep (missAt i s) t) :
    (t.tile i).chain.missCount = min 15 ((s.tile i).chain.missCount + 1)
      ∧ (t.tile i).chain.serial = (s.tile i).chain.serial ∧ (t.tile i).chain.bound = (s.tile i).chain.bound
      ∧ (t.tile i).chain.confirmed = (s.tile i).chain.confirmed
      ∧ (∀ f, (s.tile i).chain.state.former = some f → s.chain.missLimit ≤ min 15 ((s.tile i).chain.missCount + 1) →
          (t.tile i).chain.state = .lost ∧ (t.tile i).chain.former = some f ∧ (t.tile i).chain.answering = false
            ∧ (t.tile i).prot.lost = ⟨true, true, true⟩)
      ∧ (min 15 ((s.tile i).chain.missCount + 1) < s.chain.missLimit →
          (t.tile i).chain.state = (s.tile i).chain.state ∧ (t.tile i).prot.lost = (s.tile i).prot.lost)
      ∧ ((s.tile i).chain.state = .lost → (t.tile i).chain.state = .lost ∧ (t.tile i).chain.answering = false)
      ∧ (∀ j, j ≠ i → SameButPending (s.tile j).chain (t.tile j).chain) := by
  have hi : RoundTile (countMiss s.chain.missLimit (s.tile i)) (t.tile i) := tile_missAt_same s i ▸ h.tile i
  obtain ⟨hserial, hbound, hconf⟩ := countMiss_frame s.chain.missLimit (s.tile i)
  obtain ⟨hmiss, hlost, hbelow, _⟩ := countMiss_spec s.chain.missLimit (s.tile i)
  refine ⟨hi.chain.missCount.trans hmiss, hi.chain.serial.trans hserial, hi.chain.bound.trans hbound,
    hi.chain.confirmed.trans hconf, fun f hf hn => ?_, fun hn => ?_, fun hl => ?_, fun j hj => ?_⟩
  · obtain ⟨hstate, hformer, hcond⟩ := hlost f hf hn
    exact ⟨hi.chain.state.trans hstate, hi.chain.former.trans hformer,
      hi.chain.answering.trans (countMiss_answering_of_former _ _ f hf hn), hi.lost.trans hcond⟩
  · obtain ⟨hstate, hprot⟩ := hbelow hn
    exact ⟨hi.chain.state.trans hstate, hi.lost.trans (by rw [hprot])⟩
  · obtain ⟨hstate, hans⟩ := countMiss_of_lost s.chain.missLimit (s.tile i) hl
    exact ⟨hi.chain.state.trans hstate, hi.chain.answering.trans hans⟩
  · exact tile_missAt_other s i j hj ▸ (h.tile j).chain

/-! ## A POLL reply -/

/-- The settling of P leaves everything of a tile but P, the pending coefficients and what they were formed from (R134). -/
theorem settleTile_frame (m sb : Nat) (was : Bool) (t : Tile) :
    (settleTile m sb was t).temp = t.temp ∧ (settleTile m sb was t).held = t.held ∧ (settleTile m sb was t).slew = t.slew
      ∧ (settleTile m sb was t).eng.hours = t.eng.hours ∧ (settleTile m sb was t).eng.load = t.eng.load := by
  rcases settleTile_cases m sb was t with h | h <;> rw [h]
  · exact ⟨rfl, rfl, rfl, rfl, rfl⟩
  · rcases formTile_cases .reform m sb (t.setProt { t.prot with p := protFactor t.prot }) with ⟨_, h⟩ | ⟨g, _, h⟩ <;>
      (rw [h]; exact ⟨rfl, rfl, rfl, rfl, rfl⟩)

/-- The state change of a POLL reply moves state, former state and answering flag, the first-set flag and LOST alone, as the slot's
state and the LOST policy lay down (R10, R12, R14). -/
theorem pollState_spec (policy : LostPolicy) (t : Tile) :
    (pollState policy t).chain = { t.chain with
        state := (pollState policy t).chain.state, former := (pollState policy t).chain.former
        answering := (pollState policy t).chain.answering }
      ∧ (pollState policy t).temp = t.temp ∧ (pollState policy t).eng = t.eng
      ∧ (t.chain.state = .joining → t.chain.bound ≠ 0 → (pollState policy t).chain.state = .active)
      ∧ (t.chain.state = .joining → t.chain.bound = 0 → (pollState policy t).chain.state = .joining)
      ∧ (∀ f, t.chain.state = .lost → t.chain.former = some f → policy = .auto → (pollState policy t).chain.state = f.state
          ∧ (pollState policy t).chain.former = none ∧ (pollState policy t).prot.lost.cond = false)
      ∧ (t.chain.state = .lost → policy = .onClear →
          (pollState policy t).chain.state = .lost ∧ (pollState policy t).chain.answering = true)
      ∧ (t.chain.state = .active ∨ t.chain.state = .unprofiled → (pollState policy t).chain.state = t.chain.state) := by
  cases hst : t.chain.state with
  | vacant | active | unprofiled =>
    have e : pollState policy t = t := by simp only [pollState, hst]
    rw [e]
    exact ⟨rfl, rfl, rfl, by simp [hst]⟩
  | joining =>
    by_cases hb : t.chain.bound = 0
    · have e : pollState policy t = t := by simp only [pollState, hst, if_pos hb]
      rw [e]
      exact ⟨rfl, rfl, rfl, by simp [hst, hb]⟩
    · have e : pollState policy t = { t with chain := { t.chain with state := .active }, slew := { t.slew with firstSet := true } } := by
        simp only [pollState, hst, if_neg hb]
        rfl
      rw [e]
      simp [hb]
  | lost =>
    have e : pollState policy t = lostAnswered policy t := by simp only [pollState, hst]
    rw [e]
    cases policy with
    | auto =>
      cases hf : t.chain.former with
      | none =>
        have e' : lostAnswered .auto t = t := by simp [lostAnswered, returnFromLost, hf]
        rw [e']
        exact ⟨rfl, rfl, rfl, by simp⟩
      | some f => simp [lostAnswered, returnFromLost_spec t f hf, Cond.clear]
    | onClear => simp [lostAnswered, hst]

/-- One arrival moves its own tile alone: the reading, lit hours and load are taken as reported, the slot record and LOST stand
(R64, R65, R75). -/
theorem arrival_spec (i : Slot) (temp : Option Int) (fault : Bool) (hours load : Nat) :
    ∃ x, arrival i temp fault hours load s = s.putTile i x ∧ x.chain = (s.tile i).chain ∧ x.prot.lost = (s.tile i).prot.lost
      ∧ x.eng.hours = some hours ∧ x.eng.load = some load ∧ x.temp.own = (takeReading temp fault (s.tile i).temp).own
      ∧ x.temp.fault = some fault ∧ x.temp.ownValid = readingValid temp fault := by
  have hread : ∃ x, arrivalReading i temp fault hours load s = s.putTile i x ∧ x.chain = (s.tile i).chain
      ∧ x.prot.lost = (s.tile i).prot.lost ∧ x.eng.hours = some hours ∧ x.eng.load = some load
      ∧ x.temp = takeReading temp fault (s.tile i).temp := by
    refine ⟨_, rfl, rfl, ?_, rfl, rfl, rfl⟩
    rw [Tile.setProt_prot]
    split <;> rfl
  have hsel : ∀ (sel : Option Selection) (r : TempRec), (applySelection sel r).own = r.own
      ∧ (applySelection sel r).fault = r.fault ∧ (applySelection sel r).ownValid = r.ownValid := by
    intro sel r
    unfold applySelection
    dsimp only
    split <;> exact ⟨rfl, rfl, rfl⟩
  have htake : ∀ (w : Nat) (v : Int) (r : TempRec), (takeSample w v r).1.own = r.own
      ∧ (takeSample w v r).1.fault = r.fault ∧ (takeSample w v r).1.ownValid = r.ownValid := by
    intro w v r
    unfold takeSample
    split
    · exact ⟨rfl, rfl, rfl⟩
    · dsimp only
      split <;> exact ⟨rfl, rfl, rfl⟩
  have hsample : ∀ (sel : Option Selection) (u : State), ∃ y, arrivalSample i sel u = u.putTile i y ∧ y.chain = (u.tile i).chain
      ∧ y.prot.lost = (u.tile i).prot.lost ∧ y.eng = (u.tile i).eng ∧ y.temp.own = (u.tile i).temp.own
      ∧ y.temp.fault = (u.tile i).temp.fault ∧ y.temp.ownValid = (u.tile i).temp.ownValid := by
    intro sel u
    cases sel with
    | none => exact ⟨_, rfl, rfl, rfl, rfl, hsel none _⟩
    | some z =>
      obtain ⟨ho, hf, hv⟩ := htake u.tempSet.w z.sample.temp (applySelection (some z) (u.tile i).temp)
      obtain ⟨ho', hf', hv'⟩ := hsel (some z) (u.tile i).temp
      refine ⟨_, rfl, rfl, ?_, rfl, ho.trans ho', hf.trans hf', hv.trans hv'⟩
      rw [Tile.setProt_prot]
      split <;> rfl
  obtain ⟨x, hx, hchain, hlost, hhours, hload, htemp⟩ := hread
  obtain ⟨y, hy, hchain', hlost', heng', hown, hfault, hvalid⟩ := hsample (selectSource (s.putTile i x) i) (s.putTile i x)
  rw [State.tile_putTile_same] at hchain' hlost' heng' hown hfault hvalid
  refine ⟨y, ?_, hchain'.trans hchain, hlost'.trans hlost, by rw [heng', hhours], by rw [heng', hload], by rw [hown, htemp],
    by rw [hfault, htemp]; rfl, by rw [hvalid, htemp]; rfl⟩
  unfold arrival
  dsimp only
  rw [hx, hy, State.putTile_putTile]

/-- A valid POLL reply moves its own tile alone until the poll phase goes on (R9, R10, R12, R14, R64, R75, R134). -/
theorem pollReplied_spec (i : Slot) (temp : Option Int) (fault : Bool) (hours load : Nat) (echo : RGB Nat) :
    ∃ x, pollReplied i temp fault hours load echo s = s.putTile i x
      ∧ SameButPending { (s.tile i).chain with
          missCount := 0, confirmed := some echo, polled := (s.tile i).chain.polled || (s.tile i).chain.state != .lost
          state := x.chain.state, former := x.chain.former, answering := x.chain.answering } x.chain
      ∧ x.eng.hours = some hours ∧ x.eng.load = some load ∧ x.temp.own = (takeReading temp fault (s.tile i).temp).own
      ∧ x.temp.fault = some fault ∧ x.temp.ownValid = readingValid temp fault
      ∧ ((s.tile i).chain.state = .joining → (s.tile i).chain.bound ≠ 0 → x.chain.state = .active)
      ∧ ((s.tile i).chain.state = .joining → (s.tile i).chain.bound = 0 → x.chain.state = .joining)
      ∧ (∀ f, (s.tile i).chain.state = .lost → (s.tile i).chain.former = some f → s.protSet.lostPolicy = .auto →
          x.chain.state = f.state ∧ x.chain.former = none ∧ x.prot.lost.cond = false)
      ∧ ((s.tile i).chain.state = .lost → s.protSet.lostPolicy = .onClear → x.chain.state = .lost ∧ x.chain.answering = true)
      ∧ ((s.tile i).chain.state = .active ∨ (s.tile i).chain.state = .unprofiled → x.chain.state = (s.tile i).chain.state) := by
  obtain ⟨y, hy, hchain, _, hhours, hload, hown, hfault, hvalid⟩ :=
    arrival_spec (s.putTile i (pollConfirm echo (s.tile i))) i temp fault hours load
  rw [State.tile_putTile_same] at hchain hown
  rw [State.putTile_putTile] at hy
  obtain ⟨pchain, ptemp, peng, pjoin, pwait, pauto, pclear, pstay⟩ := pollState_spec s.protSet.lostPolicy y
  have hconf : y.chain = { (s.tile i).chain with
      missCount := 0, confirmed := some echo, polled := (s.tile i).chain.polled || (s.tile i).chain.state != .lost } := hchain
  generalize hz : pollState s.protSet.lostPolicy y = z at pchain ptemp peng pjoin pwait pauto pclear pstay
  have hset := settleTile_chain s.showRec.m s.budget.sb (s.tile i).prot.overheat.cond z
  obtain ⟨stemp, _, _, shours, sload⟩ := settleTile_frame s.showRec.m s.budget.sb (s.tile i).prot.overheat.cond z
  have sprot := settleTile_prot s.showRec.m s.budget.sb (s.tile i).prot.overheat.cond z
  refine ⟨settleTile s.showRec.m s.budget.sb (s.tile i).prot.overheat.cond z, ?_, ?_, by rw [shours, peng, hhours],
    by rw [sload, peng, hload], by rw [stemp, ptemp, hown]; rfl, by rw [stemp, ptemp, hfault], by rw [stemp, ptemp, hvalid],
    ?_, ?_, ?_, ?_, ?_⟩
  · have hz' : pollState (s.putTile i y).protSet.lostPolicy ((s.putTile i y).tile i) = z := by
      rw [State.tile_putTile_same]; exact hz
    unfold pollReplied settleSlot
    dsimp only
    rw [hy, hz', State.putTile_putTile, State.tile_putTile_same, State.putTile_putTile]
    rfl
  · rw [hset.state, hset.former, hset.answering]
    rw [hconf] at pchain
    exact pchain ▸ hset
  all_goals rw [hconf] at pjoin pwait pauto pclear pstay
  · exact fun h hb => hset.state.trans (pjoin h hb)
  · exact fun h hb => hset.state.trans (pwait h hb)
  · intro f h hf hp
    obtain ⟨hstate, hformer, hcond⟩ := pauto f h hf hp
    exact ⟨hset.state.trans hstate, hset.former.trans hformer, by rw [sprot]; exact hcond⟩
  · intro h hp
    obtain ⟨hstate, hans⟩ := pclear h hp
    exact ⟨hset.state.trans hstate, hset.answering.trans hans⟩
  · exact fun h => hset.state.trans (pstay h)

end Sys2Proof.Machine
end

section
/-! The statements about starts, replies and misses of a round. -/

namespace Sys2Proof.Machine

variable (s : State)

/-- The reading of a POLL reply as it is taken (R64). -/
theorem readingValid_some (v : Int) (fault : Bool) : readingValid (some v) fault = true ↔ fault = false ∧ -40 ≤ v ∧ v ≤ 125 := by
  simp [readingValid, and_assoc]

/-! ## Binding of one slot -/

/-- A slot whose serial no record carries fails to bind for NOPROFILE (R42, R43). -/
theorem tryBind_of_noRecord (i : Slot) (n : Serial) (hn : (s.tile i).chain.serial = some n) (hf : s.store.findTile n = none) :
    tryBind i s = s.putTile i (failBinding .noProfile {} (s.tile i)) := by
  have h : bindOutcome s i = (0, .fail .noProfile {}) := by simp [bindOutcome, hn, hf]
  simp only [tryBind, h]

/-- A slot whose record is free and resolves binds to it (R42). -/
theorem tryBind_of_free (i : Slot) (n : Serial) (k : Nat) (r : Profile) (w : Working) (hn : (s.tile i).chain.serial = some n)
    (hf : s.store.findTile n = some k) (hfree : ∀ j, j ≠ i → (s.tile j).chain.bound ≠ k) (hr : s.store.profile k = some r)
    (hw : resolve s.store.profile k r = .ok w) : tryBind i s = s.putTile i (succeedBinding k w (s.tile i)) := by
  have hb : boundElsewhere s i k = false := by
    simp only [boundElsewhere, List.any_eq_false, Bool.and_eq_true, bne_iff_ne, beq_iff_eq, not_and]
    exact fun j _ => hfree j
  have h : bindOutcome s i = (k, .ok w) := by simp [bindOutcome, hn, hf, hb, hr, hw]
  simp only [tryBind, h]

/-- A binding succeeds or fails. -/
theorem tryBind_cases (i : Slot) : (∃ k w, tryBind i s = s.putTile i (succeedBinding k w (s.tile i)))
    ∨ ∃ why w, tryBind i s = s.putTile i (failBinding why w (s.tile i)) := by
  unfold tryBind
  dsimp only
  split
  · exact .inl ⟨_, _, rfl⟩
  · exact .inr ⟨_, _, rfl⟩

/-- A slot that has just entered JOINING binds in that state, or becomes UNPROFILED; its other records stay fresh (R12, R42, R43). -/
theorem bind_joinFresh (i : Slot) (n : Serial) (c : Option (RGB Nat)) (h : s.tile i = joinFresh n c) :
    ∃ x, tryBind i s = s.putTile i x ∧ x.chain.serial = some n ∧ x.chain.missCount = 0 ∧ x.chain.confirmed = c
      ∧ x.chain.polled = false ∧ x.chain.former = none ∧ x.temp = {} ∧ x.prot = {} ∧ x.eng = {} ∧ x.slew.override = none
      ∧ x.slew.manual = ⟨4096, 4096, 4096⟩ := by
  rcases tryBind_cases s i with ⟨k, w, hb⟩ | ⟨why, w, hb⟩
  · exact ⟨_, hb, h ▸ ⟨rfl, rfl, rfl, rfl, rfl, rfl, rfl, rfl, rfl, rfl⟩⟩
  · exact ⟨_, hb, h ▸ ⟨rfl, rfl, rfl, rfl, rfl, rfl, rfl, rfl, rfl, rfl⟩⟩

/-! ## An ADOPT reply -/

theorem joinByAdopt_spec (i : Slot) (n : Serial) :
    ∃ x, joinByAdopt i n s = s.putTile i x ∧ x.chain.serial = some n ∧ x.chain.missCount = 0
      ∧ x.chain.confirmed = some ⟨0, 0, 0⟩ ∧ x.chain.polled = false ∧ x.chain.former = none ∧ x.temp = {} ∧ x.eng = {}
      ∧ x.slew.override = none ∧ x.slew.manual = ⟨4096, 4096, 4096⟩
      ∧ (s.store.findTile n = none →
          x.chain.state = .unprofiled ∧ x.chain.bound = 0 ∧ x.chain.reason = some .noProfile)
      ∧ ∀ k r w, s.store.findTile n = some k → (∀ j, j ≠ i → (s.tile j).chain.bound ≠ k) → s.store.profile k = some r →
          resolve s.store.profile k r = .ok w → x.chain.state = .joining ∧ x.chain.bound = k ∧ x.held = .full w := by
  have htile : (s.putTile i (joinFresh n (some (RGB.all 0)))).tile i = joinFresh n (some (RGB.all 0)) := by simp
  obtain ⟨x, hx, hser, hmiss, hconf, hpoll, hform, htemp, _, heng, hover, hman⟩ := bind_joinFresh _ i n _ htile
  have hput : ∀ y, tryBind i (s.putTile i (joinFresh n (some (RGB.all 0)))) = (s.putTile i (joinFresh n (some (RGB.all 0)))).putTile i y →
      x = y := by
    intro y hy
    have := congrArg (·.tile i) (hx.symm.trans hy)
    simpa using this
  refine ⟨x, by simpa [joinByAdopt] using hx, hser, hmiss, hconf, hpoll, hform, htemp, heng, hover, hman, fun hf => ?_,
    fun k r w hf hfree hr hw => ?_⟩
  · have := hput _ (tryBind_of_noRecord _ i n (by simp [joinFresh]) hf)
    rw [this, htile]
    exact ⟨rfl, rfl, rfl⟩
  · have hfree' : ∀ j, j ≠ i → ((s.putTile i (joinFresh n (some (RGB.all 0)))).tile j).chain.bound ≠ k := fun j hj => by
      rw [State.tile_putTile_other s i j _ hj]; exact hfree j hj
    have := hput _ (tryBind_of_free _ i n k r w (by simp [joinFresh]) hf hfree' hr hw)
    rw [this, htile]
    exact ⟨rfl, rfl, rfl⟩

/-- A LOST slot whose tile has answered with its own serial returns under AUTO, and answers under ON-CLEAR (R14, R15, R20). -/
theorem lostAnswered_spec (policy : LostPolicy) (t : Tile) (f : FormerState) (hl : t.chain.state = .lost)
    (hf : t.chain.former = some f) :
    (lostAnswered policy t).chain = { t.chain with
        state := (lostAnswered policy t).chain.state, former := (lostAnswered policy t).chain.former
        answering := (lostAnswered policy t).chain.answering }
      ∧ (policy = .auto → (lostAnswered policy t).chain.state = f.state ∧ (lostAnswered policy t).chain.former = none
          ∧ (lostAnswered policy t).prot.lost.cond = false)
      ∧ (policy = .onClear → (lostAnswered policy t).chain.state = .lost ∧ (lostAnswered policy t).chain.answering = true) := by
  cases policy with
  | auto => simp [lostAnswered, returnFromLost_spec t f hf, Cond.clear]
  | onClear => simp [lostAnswered, hl]

/-- What the rest of a round leaves of a slot that an event has replaced, and of every other slot. -/
theorem roundStep_of_putTile {i : Slot} {x : Tile} {t : State} (h : RoundStep (s.putTile i x) t) :
    RoundTile x (t.tile i) ∧ ∀ j, j ≠ i → RoundTile (s.tile j) (t.tile j) :=
  ⟨by simpa using h.tile i, fun j hj => State.tile_putTile_other s i j x hj ▸ h.tile j⟩

/-- An event that takes a reply or a miss and then goes on with its round. -/
theorem RoundStep.event_after {f g : State → State} {u : State} (hg : g s = u) (hf : RoundStep u (f u)) :
    RoundStep u (Machine.event (fun s => f (g s)) s) := by
  subst hg
  exact hf.notify

end Sys2Proof.Machine

open Sys2Proof Sys2Proof.Machine

/-- Settles O35: neither start moves a tile, so its event is its effect. -/
theorem roundOrEnumerationBegins : Obligations.RoundOrEnumerationBegins := by
  intro s hr ha
  refine ⟨fun i hn hi hlt => ?_, fun x hx => ?_⟩
  · have hrel : s.relearning = false := by
      unfold State.relearning
      split
      · rename_i x hx
        exact absurd hx (hn x)
      · rfl
      · rfl
    have hcan : canStartRound s = true := by simp [canStartRound, hr, ha, hrel]
    have hstart : startRound s = { s with chain := { s.chain with
        roundTimer := some 0, startNow := false, activity := .poll i } } :=
      pollFrom_eq _ (Nat.zero_le _) hi fun j _ hj => hlt j hj
    show Host.Outcome.next (if canStartRound s then event startRound s else s) = _
    rw [if_pos hcan, event_of_sameTiles s startRound (by rw [hstart]) (by rw [hstart]), hstart]
  · have hwait : (s.relearning && s.chain.activity == .idle && !s.inReset) = true := by
      simp [State.relearning, hx, ha, hr]
    show Host.Outcome.next (if s.relearning && s.chain.activity == .idle && !s.inReset then sendEnum0 s else s) = _
    rw [if_pos hwait]
    rfl

/-- Settles O36: what the reply makes of its own slot, through the rest of the round, and the slots that the rest of the round
leaves. -/
theorem pollReplyUpdatesTheSlot : Obligations.PollReplyUpdatesTheSlot := by
  intro i temp fault hours load echo s ha hok
  obtain ⟨x, hx, hchain, hhours, hload, hown, hfault, hvalid, hjoin, hwait, hauto, hclear, hstay⟩ :=
    pollReplied_spec s i temp fault hours load echo
  have hexec : exec (.pollReply temp fault hours load echo) s
      = .next (event (fun s => pollFrom (i.val + 1) (pollReplied i temp fault hours load echo s)) s) := by
    show execPollReply temp fault hours load echo s = _
    simp only [execPollReply, ha, hok, if_true]
  have hround : RoundStep (s.putTile i x)
      (event (fun s => pollFrom (i.val + 1) (pollReplied i temp fault hours load echo s)) s) :=
    .event_after s hx (.of_pollFrom _ _)
  refine ⟨_, hexec, ?_⟩
  have hnext : ∀ j, i < j → (s.tile j).chain.state ≠ .vacant → (∀ k, i < k → k < j → (s.tile k).chain.state = .vacant) →
      pollFrom (i.val + 1) (pollReplied i temp fault hours load echo s) = (s.putTile i x).setActivity (.poll j) := by
    intro j hij hj hlt
    have hother : ∀ k, i < k → (s.putTile i x).tile k = s.tile k := fun k hk => State.tile_putTile_other s i k x (ne_of_gt hk)
    rw [hx]
    exact pollFrom_eq _ hij (by rw [hother j hij]; exact hj) fun k hk hkj => by
      rw [hother k hk]; exact hlt k hk hkj
  have heffect : ∀ j, i < j → (s.tile j).chain.state ≠ .vacant → (∀ k, i < k → k < j → (s.tile k).chain.state = .vacant) →
      let t := event (fun s => pollFrom (i.val + 1) (pollReplied i temp fault hours load echo s)) s
      t.chain.activity = .poll j ∧ t.wall = s.wall ∧ ∀ k, k ≠ i → t.tile k = s.tile k := by
    intro j hij hj hlt
    unfold event
    dsimp only
    rw [hnext j hij hj hlt]
    exact ⟨rfl, rfl, fun k hk => State.tile_putTile_other s i k x hk⟩
  generalize event (fun s => pollFrom (i.val + 1) (pollReplied i temp fault hours load echo s)) s = t at hround heffect ⊢
  obtain ⟨hi, hother⟩ := roundStep_of_putTile s hround
  have hrec : SameButPending _ (t.tile i).chain := hchain.trans hi.chain
  refine ⟨hrec.missCount, hrec.confirmed, hrec.polled, hrec.serial, hrec.bound, hi.hours.trans hhours, hi.load.trans hload,
    by rw [hi.temp, hfault], fun v hv => ?_, fun hv => ?_, fun h hb => hi.chain.state.trans (hjoin h hb),
    fun h hb => hi.chain.state.trans (hwait h hb), fun f h hf hp => ?_, fun h hp => ?_,
    fun h => hi.chain.state.trans (hstay h), fun j hj => ⟨(hother j hj).chain, (hother j hj).temp⟩, heffect, hround.showRec,
    by rw [hround.store]; rfl, by rw [hround.store]; rfl⟩
  · subst hv
    rw [hi.temp, hown, hvalid]
    exact ⟨rfl, readingValid_some v fault⟩
  · subst hv
    rw [hi.temp, hown, hvalid]
    exact ⟨rfl, rfl⟩
  · obtain ⟨hstate, hformer, hcond⟩ := hauto f h hf hp
    exact ⟨hi.chain.state.trans hstate, hi.chain.former.trans hformer, by rw [hi.lost]; exact hcond⟩
  · obtain ⟨hstate, hans⟩ := hclear h hp
    exact ⟨hi.chain.state.trans hstate, hi.chain.answering.trans hans⟩

/-- Settles O37: each of the frames counts its miss first and then goes on with its round. -/
theorem missIsCounted : Obligations.MissIsCounted := by
  rintro c i s hi (⟨rfl, ha⟩ | ⟨rfl, x, ha⟩ | ⟨rfl, ⟨x, ha⟩ | ⟨x, r, e, ha⟩⟩ | ⟨rfl, x, r, ha⟩)
  · have h : exec .pollMiss s = .next (event (fun s => pollFrom (i.val + 1) (missAt i s)) s) := by
      show execPollMiss s = _
      simp only [execPollMiss, ha]
    exact ⟨_, h, missCounted s i (RoundStep.of_pollFrom _ _).notify⟩
  · have h : exec .pushMiss s = .next (event (fun s => pushFrom (i.val + 1) (missAt i s)) s) := by
      show execPushMiss s = _
      simp only [execPushMiss, ha]
    exact ⟨_, h, missCounted s i (RoundStep.of_pushFrom _ _).notify⟩
  · have h : exec .patchMiss s = .next (event (fun s => sendPatchOff i x 0 (.failed .noReply) (missAt i s)) s) := by
      show execPatchMiss s = _
      simp only [execPatchMiss, ha]
    exact ⟨_, h, missCounted s i (RoundStep.of_sendPatchOff _ _ _ _ _).notify⟩
  · have h : exec .patchMiss s = .next (event (fun s => endProbeStep i x e (missAt i s)) s) := by
      show execPatchMiss s = _
      simp only [execPatchMiss, ha]
    exact ⟨_, h, missCounted s i (RoundStep.of_endProbeStep _ _ _ _).notify⟩
  · have h : exec .senseMiss s = .next (event (fun s => sendPatchOff i x r (.failed .noReply) (missAt i s)) s) := by
      show execSenseMiss s = _
      simp only [execSenseMiss, ha]
    exact ⟨_, h, missCounted s i (RoundStep.of_sendPatchOff _ _ _ _ _).notify⟩

/-- Settles O38: the reply moves the miss count and the confirmed coefficients alone, which no notice tells of. -/
theorem answeredFrameClearsTheMissCount : Obligations.AnsweredFrameClearsTheMissCount := by
  intro i s
  refine ⟨fun x echo ha hok => ?_, fun x ha hd => ?_, fun x r st count ha hc => ?_⟩
  · have h : exec (.pushReply echo) s = .next (event (fun s => pushFrom (i.val + 1) (pushReplied i echo s)) s) := by
      show execPushReply echo s = _
      simp only [execPushReply, ha, hok, if_true]
    obtain ⟨a, hpush⟩ : ∃ a, pushFrom (i.val + 1) (pushReplied i echo s) = (pushReplied i echo s).setActivity a := by
      rcases pushFrom_spec (pushReplied i echo s) (i.val + 1) with ⟨h, _⟩ | ⟨j, _, _, h⟩ <;> exact ⟨_, h⟩
    refine ⟨_, h, ?_⟩
    rw [event_of_quietTile s _ i { s.tile i with chain := { (s.tile i).chain with missCount := 0, confirmed := some echo } }
      (by rw [hpush]; rfl) rfl rfl rfl (by rw [hpush]; rfl), hpush]
    exact ⟨State.tile_putTile_same s i _, fun j hj => State.tile_putTile_other s i j _ hj, rfl⟩
  · have hd' : discarding (answeredAt i s) = false := hd
    have h : exec .patchReply s = .next (event (fun s => if discarding (answeredAt i s) then
        sendPatchOff i x 0 .discarded (answeredAt i s) else (answeredAt i s).setActivity (.settle i x)) s) := by
      show execPatchReply s = _
      simp only [execPatchReply, ha]
    refine ⟨_, h, ?_⟩
    rw [event_of_quietTile s _ i (s.tile i).answered (by rw [hd']; rfl) rfl rfl rfl (by rw [hd']; rfl)]
    dsimp only
    rw [hd']
    exact ⟨State.tile_putTile_same s i _, fun j hj => State.tile_putTile_other s i j _ hj, rfl⟩
  · have hok : senseCountOk count = true := by simp [senseCountOk, hc]
    have h : exec (.senseReply st count) s = .next (event (fun s => senseReplied i x r count (answeredAt i s)) s) := by
      show execSenseReply st count s = _
      simp only [execSenseReply, ha, hok, if_true]
    obtain ⟨w, a, hsense⟩ : ∃ w a, senseReplied i x r count (answeredAt i s) = ((answeredAt i s).setSweep w).setActivity a := by
      unfold senseReplied
      split
      · exact ⟨s.sweep, _, rfl⟩
      · split
        · exact ⟨s.sweep, _, rfl⟩
        · exact ⟨_, _, rfl⟩
        · exact ⟨s.sweep, _, rfl⟩
    refine ⟨_, h, ?_⟩
    rw [event_of_quietTile s _ i (s.tile i).answered (by rw [hsense]; rfl) rfl rfl rfl (by rw [hsense]; rfl), hsense]
    exact ⟨State.tile_putTile_same s i _, fun j hj => State.tile_putTile_other s i j _ hj, rfl⟩

/-- Settles O39: the adopted slot's record as the reply leaves it, through the rest of the round. -/
theorem adoptReturnsOrReplacesTheTile : Obligations.AdoptReturnsOrReplacesTheTile := by
  intro i s ha
  have hreply : ∀ n, exec (.adoptReply n) s = .next (event (fun s => probePhase (adoptReplied i n s)) s) := by
    intro n
    show execAdoptReply n s = _
    simp only [execAdoptReply, ha]
  refine ⟨?_, fun n f hn hl hf => ?_, fun n hn => ?_⟩
  · have h : exec .adoptNoReply s = .next (event probePhase s) := by
      show execAdoptNoReply s = _
      simp only [execAdoptNoReply, ha]
    exact ⟨_, h, fun j => ((RoundStep.of_probePhase s).notify.tile j).chain⟩
  · obtain ⟨y, hy⟩ : ∃ y : Tile, y = (s.tile i).setChain { (s.tile i).chain with
      missCount := 0, confirmed := some (RGB.all 0) } := ⟨_, rfl⟩
    have hadopt : adoptReplied i n s = s.putTile i (lostAnswered s.protSet.lostPolicy y) := by
      unfold adoptReplied
      dsimp only
      rw [if_pos hn, hy]
    obtain ⟨hchain, hauto, hclear⟩ := lostAnswered_spec s.protSet.lostPolicy y f (by rw [hy]; exact hl) (by rw [hy]; exact hf)
    obtain ⟨hi, hother⟩ := roundStep_of_putTile s
      (RoundStep.event_after s hadopt (.of_probePhase _))
    refine ⟨_, hreply n, ?_, ?_, ?_, ?_, fun hp => ?_, fun hp => ?_, fun j hj => (hother j hj).chain⟩
    · rw [hi.chain.missCount, hchain, hy]; rfl
    · rw [hi.chain.confirmed, hchain, hy]; rfl
    · rw [hi.chain.serial, hchain, hy]; exact hn
    · rw [hi.chain.bound, hchain, hy]; rfl
    · obtain ⟨hstate, hformer, hcond⟩ := hauto hp
      exact ⟨hi.chain.state.trans hstate, hi.chain.former.trans hformer, by rw [hi.lost]; exact hcond⟩
    · obtain ⟨hstate, hans⟩ := hclear hp
      exact ⟨hi.chain.state.trans hstate, hi.chain.answering.trans hans⟩
  · obtain ⟨x, hx, hser, hmiss, hconf, hpoll, hform, htemp, heng, hover, hman, hnone, hsome⟩ := joinByAdopt_spec s i n
    have hadopt : adoptReplied i n s = s.putTile i x := by
      unfold adoptReplied
      dsimp only
      rw [if_neg hn, hx]
    obtain ⟨hi, hother⟩ := roundStep_of_putTile s
      (RoundStep.event_after s hadopt (.of_probePhase _))
    refine ⟨_, hreply n, hi.chain.serial.trans hser, hi.chain.missCount.trans hmiss, hi.chain.confirmed.trans hconf,
      hi.chain.polled.trans hpoll, hi.chain.former.trans hform, hi.temp.trans htemp, by rw [hi.hours, heng],
      hi.override.trans hover, hi.manual.trans hman, fun hf => ?_, fun k r w hf hfree hr hw => ?_, fun j hj => (hother j hj).chain⟩
    · obtain ⟨hstate, hbound, hreason⟩ := hnone hf
      exact ⟨hi.chain.state.trans hstate, hi.chain.bound.trans hbound, hi.chain.reason.trans hreason⟩
    · obtain ⟨hstate, hbound, hheld⟩ := hsome k r w hf hfree hr hw
      exact ⟨hi.chain.state.trans hstate, hi.chain.bound.trans hbound, hi.held.trans hheld⟩

end

section
/-! Enumeration (R20 to R22): binding at its end, the end of the RELEARN, and the statements about ENUM replies and windows. -/

namespace Sys2Proof.Machine

variable (s : State)

/-! ## Pending classes only grow -/

/-- Every class pending at a port stays pending (R200). -/
def PendingKept (s t : State) : Prop := ∀ q, (s.port q).pending.union (t.port q).pending = (t.port q).pending

theorem Notices.union_self (x : Notices) : x.union x = x := by simp [Notices.union]

theorem PendingKept.refl : PendingKept s s := fun _ => Notices.union_self _

theorem PendingKept.trans {s t u : State} (h : PendingKept s t) (k : PendingKept t u) : PendingKept s u := by
  intro q
  rw [← k q, ← Notices.union_assoc, h q]

theorem PendingKept.of_noticeAll (n : Notices) : PendingKept s (s.noticeAll n) := by
  intro q
  rw [State.port_noticeAll]
  exact Notices.union_self_right _ _

theorem PendingKept.of_notify (before : State) : PendingKept s (notify before s) := .of_noticeAll s _

theorem PendingKept.of_complete (p : Port) (n : ReqName) (v : Verdict) (why : Option Reason) (d : ResultData) :
    PendingKept s (complete p n v why d s) := by
  obtain ⟨⟨hp, hother⟩, _⟩ := complete_spec s p n v why d
  intro q
  by_cases h : q = p
  · subst h
    rw [hp]
    simp only [Notices.union_none]
    exact Notices.union_self_right _ _
  · rw [hother q h, PortRec.notice_none]
    exact Notices.union_self _

theorem PendingKept.tile {s t : State} (h : PendingKept s t) {q : Port} (hq : (s.port q).pending.tile = true) :
    (t.port q).pending.tile = true := by
  rw [← h q]
  simp [Notices.union, hq]

theorem PendingKept.cond {s t : State} (h : PendingKept s t) {q : Port} (hq : (s.port q).pending.cond = true) :
    (t.port q).pending.cond = true := by
  rw [← h q]
  simp [Notices.union, hq]

@[simp] theorem result_notify (before : State) (p : Port) : ((notify before s).port p).result = (s.port p).result := by
  rw [port_notify]; rfl

@[simp] theorem busy_notify (before : State) (p : Port) : ((notify before s).port p).busy = (s.port p).busy := by
  rw [port_notify]; rfl

@[simp] theorem abortRequested_notify (before : State) (p : Port) :
    ((notify before s).port p).abortRequested = (s.port p).abortRequested := by
  rw [port_notify]; rfl

/-! ## The end of a RELEARN -/

/-- The end of a RELEARN frees the token and moves the ports alone (R21, R22). -/
theorem endRelearn_frame (v : Verdict) (why : Option Reason) (d : ResultData) :
    endRelearn v why d s = { s with ports := (endRelearn v why d s).ports, token := .free } := by
  unfold endRelearn
  dsimp only
  split <;> rfl

/-- A RELEARN of a port completes there (R193). -/
theorem endRelearn_spec (v : Verdict) (why : Option Reason) (d : ResultData) (p : Port) (h : s.token = .relearn (some p)) :
    PortsAfter p ⟨.relearn, v, why, d⟩ {} s (endRelearn v why d s) := by
  have e : endRelearn v why d s = (complete p .relearn v why d s).setToken .free := by
    simp only [endRelearn, h]
  rw [e]
  exact (complete_spec s p .relearn v why d).1

theorem PendingKept.of_endRelearn (v : Verdict) (why : Option Reason) (d : ResultData) : PendingKept s (endRelearn v why d s) := by
  unfold endRelearn
  dsimp only
  split
  · exact .of_complete s _ _ _ _ _
  · exact .refl s

/-! ## Binding at the end of an enumeration -/

theorem tile_tryBindIf_other (p : SlotRec → Bool) (i j : Slot) (h : j ≠ i) : (tryBindIf p s i).tile j = s.tile j := by
  unfold tryBindIf
  split
  · exact tile_tryBind_other s i j h
  · rfl

theorem tryBindIf_of_waiting (p : SlotRec → Bool) (i : Slot) (h : p (s.tile i).chain = true) : tryBindIf p s i = tryBind i s :=
  if_pos h

/-- Binding tried over a list of slots leaves every slot that is not on it. -/
theorem tile_foldl_tryBindIf (p : SlotRec → Bool) (is : List Slot) (j : Slot) (h : j ∉ is) :
    (is.foldl (tryBindIf p) s).tile j = s.tile j := by
  induction is generalizing s with
  | nil => rfl
  | cons i is ih =>
    rw [List.mem_cons, not_or] at h
    rw [List.foldl_cons, ih _ h.2, tile_tryBindIf_other s p i j h.1]

/-- Binding tried over a list of slots reaches each waiting slot of it once, with the slot and the store as they were. -/
theorem foldl_tryBindIf_at (p : SlotRec → Bool) {is : List Slot} (hnd : is.Nodup) {i : Slot} (hi : i ∈ is)
    (hp : p (s.tile i).chain = true) :
    ∃ u, (is.foldl (tryBindIf p) s).tile i = (tryBind i u).tile i ∧ u.tile i = s.tile i ∧ u.store = s.store := by
  obtain ⟨lo, hs, rfl⟩ := List.append_of_mem hi
  rw [List.nodup_append, List.nodup_cons] at hnd
  obtain ⟨_, ⟨hhs, _⟩, hdis⟩ := hnd
  have hlo : (lo.foldl (tryBindIf p) s).tile i = s.tile i :=
    tile_foldl_tryBindIf s p lo i fun h => hdis i h i (by simp) rfl
  refine ⟨lo.foldl (tryBindIf p) s, ?_, hlo, by rw [(foldl_tryBindIf_frame s p lo).1]⟩
  rw [List.foldl_append, List.foldl_cons, tile_foldl_tryBindIf _ p hs i hhs]
  rw [tryBindIf_of_waiting _ p i (by rw [hlo]; exact hp)]

/-- Binding at the end of an enumeration moves tiles alone, and of those only the JOINING and UNPROFILED ones below `n`
(R21, R22). -/
theorem bindEnumerated_spec (n : Nat) : bindEnumerated n s = s.setTiles (bindEnumerated n s).tiles
    ∧ ∀ i : Slot, (s.tile i).chain.enumerated = false ∨ n ≤ i.val → (bindEnumerated n s).tile i = s.tile i := by
  obtain ⟨hframe, hkeep⟩ := foldl_tryBindIf_frame s SlotRec.enumerated (slots.filter fun i => decide (i.val < n))
  refine ⟨hframe, fun i hi => hi.elim (hkeep i) fun hn => ?_⟩
  exact tile_foldl_tryBindIf s _ _ i (by simp; omega)

/-- A slot that has just entered JOINING is bound at the end of the enumeration, or becomes UNPROFILED (R21, R22, R43). -/
theorem bindEnumerated_joinFresh (n : Nat) (i : Slot) (hn : i.val < n) (serial : Serial) (h : s.tile i = joinFresh serial none) :
    ((bindEnumerated n s).tile i).chain.serial = some serial ∧ ((bindEnumerated n s).tile i).chain.polled = false
      ∧ ((bindEnumerated n s).tile i).temp = {} ∧ ((bindEnumerated n s).tile i).prot = {}
      ∧ (s.store.findTile serial = none → ((bindEnumerated n s).tile i).chain.state = .unprofiled
          ∧ ((bindEnumerated n s).tile i).chain.bound = 0
          ∧ ((bindEnumerated n s).tile i).chain.reason = some .noProfile) := by
  obtain ⟨u, hu, htile, hstore⟩ := foldl_tryBindIf_at s SlotRec.enumerated (is := slots.filter fun i => decide (i.val < n))
    ((List.nodup_finRange 64).filter _) (i := i) (by simp [hn, mem_slots]) (by rw [h]; rfl)
  have hu : (bindEnumerated n s).tile i = (tryBind i u).tile i := hu
  rw [h] at htile
  obtain ⟨x, hx, hser, _, _, hpoll, _, htemp, hprot, _⟩ := bind_joinFresh u i serial none htile
  rw [hx, State.tile_putTile_same] at hu
  rw [hu]
  refine ⟨hser, hpoll, htemp, hprot, fun hf => ?_⟩
  have hfail := tryBind_of_noRecord u i serial (by rw [htile]; rfl) (by rw [hstore]; exact hf)
  have hxt : x = failBinding .noProfile {} (joinFresh serial none) := by
    have := congrArg (·.tile i) (hx.symm.trans hfail)
    simpa [htile] using this
  rw [hxt]
  exact ⟨rfl, rfl, rfl⟩

/-- The end of an enumeration, with the tiles `b` that binding leaves (R21). -/
theorem completeEnumeration_eq (n : Nat) (long : Bool) :
    ∃ b : Table Tile 64, (∀ i, (s.tile i).chain.enumerated = false → b.get i = s.tile i)
      ∧ completeEnumeration n long s = endRelearn .done none (.relearn n) (((s.noticeAll { cond := long }).setTiles b).setChain
          { s.chain with chainLong := long, tileCount := n, activity := .idle, startNow := true }) := by
  obtain ⟨hframe, hkeep⟩ := bindEnumerated_spec
    ((s.setChain { s.chain with chainLong := long }).noticeAll { cond := long }) 64
  refine ⟨_, fun i hi => hkeep i (.inl hi), ?_⟩
  unfold completeEnumeration
  dsimp only at hframe ⊢
  rw [hframe]
  rfl

/-- The end of an aborted enumeration, with the tiles that binding leaves (R22). -/
theorem abortEnumeration_eq (n : Nat) : abortEnumeration n s = endRelearn .aborted (some .byPort) .nothing
    ((s.setTiles (bindEnumerated n s).tiles).setChain { s.chain with activity := .idle, startNow := true }) := by
  unfold abortEnumeration leaveEnumeration
  rw [(bindEnumerated_spec s n).1]
  rfl

/-- The completion of an enumeration, whole (R21). -/
theorem completeEnumeration_spec (n : Nat) (long : Bool) :
    (∀ i, (s.tile i).chain.enumerated = false → (completeEnumeration n long s).tile i = s.tile i)
      ∧ (∀ p, s.token = .relearn (some p) →
          ((completeEnumeration n long s).port p).result = some ⟨.relearn, .done, none, .relearn n⟩
          ∧ ((completeEnumeration n long s).port p).busy = none)
      ∧ (long = true → ∀ q, ((completeEnumeration n long s).port q).pending.cond = true)
      ∧ completeEnumeration n long s = { s with
          tiles := (completeEnumeration n long s).tiles, ports := (completeEnumeration n long s).ports, token := .free
          chain := { s.chain with chainLong := long, tileCount := n, activity := .idle, startNow := true } } := by
  obtain ⟨b, hb, he⟩ := completeEnumeration_eq s n long
  rw [he]
  have hframe := endRelearn_frame (((s.noticeAll { cond := long }).setTiles b).setChain
    { s.chain with chainLong := long, tileCount := n, activity := .idle, startNow := true }) .done none (.relearn n)
  refine ⟨fun i hi => ?_, fun p hp => ?_, fun hl q => ?_, ?_⟩
  · rw [hframe]
    exact hb i hi
  · obtain ⟨hport, _⟩ := endRelearn_spec (((s.noticeAll { cond := long }).setTiles b).setChain
      { s.chain with chainLong := long, tileCount := n, activity := .idle, startNow := true }) .done none (.relearn n) p hp
    rw [hport]
    exact ⟨rfl, rfl⟩
  · refine (PendingKept.of_endRelearn _ _ _ _).cond ?_
    have : ((s.noticeAll { cond := long }).port q).pending.cond = true := by
      rw [State.port_noticeAll]
      simp [PortRec.notice, Notices.union, hl]
    exact this
  · rw [hframe]
    rfl

/-- The abort of an enumeration below slot number `n` on port `p`, whole (R22). -/
theorem abortEnumeration_spec (n : Nat) (p : Port) (h : s.token = .relearn (some p)) :
    (∀ i, (abortEnumeration n s).tile i = (bindEnumerated n s).tile i)
      ∧ ((abortEnumeration n s).port p).result = some ⟨.relearn, .aborted, some .byPort, .nothing⟩
      ∧ ((abortEnumeration n s).port p).busy = none
      ∧ PendingKept s (abortEnumeration n s)
      ∧ abortEnumeration n s = { s with
          tiles := (abortEnumeration n s).tiles, ports := (abortEnumeration n s).ports, token := .free
          chain := { s.chain with activity := .idle, startNow := true } } := by
  rw [abortEnumeration_eq]
  have hframe := endRelearn_frame ((s.setTiles (bindEnumerated n s).tiles).setChain
    { s.chain with activity := .idle, startNow := true }) .aborted (some .byPort) .nothing
  obtain ⟨hport, _⟩ := endRelearn_spec ((s.setTiles (bindEnumerated n s).tiles).setChain
    { s.chain with activity := .idle, startNow := true }) .aborted (some .byPort) .nothing p h
  refine ⟨fun i => by rw [hframe]; rfl, by rw [hport], by rw [hport], ?_, by rw [hframe]; rfl⟩
  exact PendingKept.of_endRelearn ((s.setTiles (bindEnumerated n s).tiles).setChain
    { s.chain with activity := .idle, startNow := true }) _ _ _

/-! ## A tile that answers an ENUM -/

@[simp] theorem slotOf_val (i : Slot) : slotOf i.val = some i := by simp [slotOf]

theorem slotOf_of_ge {n : Nat} (h : 64 ≤ n) : slotOf n = none := by simp [slotOf]; omega

/-- A VACANT slot, or one with another serial, enters JOINING afresh (R12, R20). -/
theorem enumTile_of_new (policy : LostPolicy) (serial : Serial) (t : Tile)
    (h : t.chain.state = .vacant ∨ t.chain.serial ≠ some serial) : enumTile policy serial t = joinFresh serial none := by
  unfold enumTile
  rw [if_neg]
  rintro ⟨hv, hs⟩
  exact h.elim hv fun hn => hn hs

/-- A slot with the reported serial that is not LOST keeps everything (R20). -/
theorem enumTile_of_same (policy : LostPolicy) (serial : Serial) (t : Tile) (hv : t.chain.state ≠ .vacant)
    (hl : t.chain.state ≠ .lost) (hs : t.chain.serial = some serial) : enumTile policy serial t = t := by
  unfold enumTile
  rw [if_pos ⟨hv, hs⟩, if_neg hl]

/-- A LOST slot with the reported serial has answered (R14, R20). -/
theorem enumTile_of_lost (policy : LostPolicy) (serial : Serial) (t : Tile) (hl : t.chain.state = .lost)
    (hs : t.chain.serial = some serial) : enumTile policy serial t = lostAnswered policy t := by
  unfold enumTile
  rw [if_pos ⟨by simp [hl], hs⟩, if_pos hl]

/-- An ABORT waits on the RELEARN in progress (R22). -/
theorem relearnAborting_of_port {p : Port} (ht : s.token = .relearn (some p)) (ha : (s.port p).abortRequested = true) :
    relearnAborting s = true := by simp [relearnAborting, ht, ha]

theorem relearnAborting_of_none (h : ∀ p, s.token = .relearn (some p) → (s.port p).abortRequested = false) :
    relearnAborting s = false := by
  unfold relearnAborting
  split
  · rename_i p hp
    exact h p hp
  · rfl
  · rfl
  · rfl

theorem enumerated_false {c : SlotRec} (hj : c.state ≠ .joining) (hu : c.state ≠ .unprofiled) : c.enumerated = false := by
  simp [SlotRec.enumerated, hj, hu]

/-- The slots from number `n` up are VACANT, and no other slot moves (R20). -/
theorem tile_vacateFrom (n : Nat) (i : Slot) : (vacateFrom n s).tile i = if n ≤ i.val then {} else s.tile i := by
  unfold vacateFrom
  rw [State.tile_setTiles, Table.get_mapIdx]
  rfl

/-- An ENUM with no reply on which no ABORT waits completes the enumeration; at ENUM 64 no slot is left to vacate (R20, R21). -/
theorem enumUnanswered_of_complete (n : Nat) (hn : n ≤ 64)
    (h : n = 64 ∨ ∀ p, s.token = .relearn (some p) → (s.port p).abortRequested = false) :
    enumUnanswered n s = completeEnumeration n false (vacateFrom n s) := by
  rcases Nat.lt_or_ge n 64 with hlt | hge
  · have ha := relearnAborting_of_none s (h.resolve_left (by omega))
    have hs : slotOf n = some ⟨n, hlt⟩ := slotOf_val ⟨n, hlt⟩
    simp [enumUnanswered, hs, ha]
  · obtain rfl : n = 64 := by omega
    have hv : vacateFrom 64 s = s := by
      unfold vacateFrom
      have ht : s.tiles.mapIdx (fun i t => if 64 ≤ i.val then {} else t) = s.tiles :=
        Table.ext_get fun i => by
          rw [Table.get_mapIdx, if_neg]
          omega
      rw [ht]
      rfl
    rw [hv]
    simp [enumUnanswered, slotOf_of_ge]

end Sys2Proof.Machine

open Sys2Proof Sys2Proof.Machine

/-- Settles O40: the slot's own change first, and then the next ENUM, the abort, or the completion at ENUM 64. -/
theorem enumReplyEntersTheSlot : Obligations.EnumReplyEntersTheSlot := by
  intro serial s
  have hexec : ∀ n, s.chain.activity = .enum n →
      exec (.enumReply serial) s = .next (notify s (enumReplied n serial s)) := by
    intro n ha
    show execEnumReply serial s = _
    simp only [execEnumReply, ha]
    rfl
  refine ⟨fun i ha hno => ?_, fun i p ha htok hab => ?_, fun ha => ?_⟩
  · have hna : relearnAborting (notify s (s.putTile i (enumTile s.protSet.lostPolicy serial (s.tile i)))) = false :=
      relearnAborting_of_none _ fun p hp => (abortRequested_notify _ s p).trans (hno p hp)
    have hreply : enumReplied i.val serial s =
        (notify s (s.putTile i (enumTile s.protSet.lostPolicy serial (s.tile i)))).setActivity (.enum (i.val + 1)) := by
      simp [enumReplied, hna]
    refine ⟨_, hexec _ ha, ?_⟩
    rw [hreply]
    have hi : (notify s ((notify s (s.putTile i (enumTile s.protSet.lostPolicy serial (s.tile i)))).setActivity
        (.enum (i.val + 1)))).tile i = enumTile s.protSet.lostPolicy serial (s.tile i) := State.tile_putTile_same s i _
    refine ⟨rfl, fun h => ?_, fun hv hl hs => ?_, fun f hl hs hf hp => ?_, fun hl hs hp => ?_,
      fun j hj => State.tile_putTile_other s i j _ hj, rfl⟩
    · rw [hi, enumTile_of_new _ _ _ h]
      exact ⟨rfl, rfl, rfl, rfl, rfl, rfl⟩
    · rw [hi, enumTile_of_same _ _ _ hv hl hs]
    · rw [hi, enumTile_of_lost _ _ _ hl hs, hp]
      simp [lostAnswered, returnFromLost_spec _ f hf, Cond.clear]
    · rw [hi, enumTile_of_lost _ _ _ hl hs, hp]
      rfl
  · generalize hs1 : notify s (s.putTile i (enumTile s.protSet.lostPolicy serial (s.tile i))) = s1
    have htok1 : s1.token = .relearn (some p) := by rw [← hs1]; exact htok
    have hab1 : (s1.port p).abortRequested = true := by
      rw [← hs1, abortRequested_notify]
      exact hab
    have hi1 : s1.tile i = enumTile s.protSet.lostPolicy serial (s.tile i) := by
      rw [← hs1]; exact State.tile_putTile_same s i _
    have hother1 : ∀ j, j ≠ i → s1.tile j = s.tile j := fun j hj => by
      rw [← hs1]; exact State.tile_putTile_other s i j _ hj
    have hreply : enumReplied i.val serial s = abortEnumeration (i.val + 1) s1 := by
      simp [enumReplied, hs1, relearnAborting_of_port s1 htok1 hab1]
    obtain ⟨htile, hresult, hbusy, hpend, hframe⟩ := abortEnumeration_spec s1 (i.val + 1) p htok1
    have hkeep := (bindEnumerated_spec s1 (i.val + 1)).2
    refine ⟨_, hexec _ ha, ?_⟩
    rw [hreply]
    refine ⟨?_, ?_, (result_notify _ _ _).trans hresult, (busy_notify _ _ _).trans hbusy, fun h => ?_, fun hst hser => ?_, fun j hj => ?_,
      fun j hj hst => ?_, ?_⟩
    · rw [notify_frame, hframe, ← hs1]; rfl
    · rw [notify_frame, hframe]
    · rw [enumTile_of_new _ _ _ h] at hi1
      obtain ⟨hser, hpoll, htemp, hprot, hnone⟩ := bindEnumerated_joinFresh s1 (i.val + 1) i (by omega) serial hi1
      rw [tile_notify, htile]
      refine ⟨hser, hpoll, htemp, hprot, fun hj q => ?_, fun hf => hnone (by rw [← hs1]; exact hf)⟩
      refine (hpend.trans (.of_notify _ _)).tile ?_
      have hdue : tileDue s (s.putTile i (enumTile s.protSet.lostPolicy serial (s.tile i))) = true := by
        refine tileDue_of_slot i ?_
        rw [State.tile_putTile_same, enumTile_of_new _ _ _ h]
        simp [tileNotice, joinFresh, hj]
      rw [← hs1, port_notify, hdue]
      simp [PortRec.notice, Notices.union]
    · rw [tile_notify, htile, hkeep i (.inl ?_), hi1, enumTile_of_same _ _ _ (by simp [hst]) (by simp [hst]) hser]
      rw [hi1, enumTile_of_same _ _ _ (by simp [hst]) (by simp [hst]) hser]
      exact enumerated_false (by simp [hst]) (by simp [hst])
    · rw [tile_notify, htile, hkeep j (.inr (Nat.succ_le_of_lt hj)), hother1 j (ne_of_gt hj)]
    · rw [tile_notify, htile, hkeep j (.inl ?_), hother1 j (ne_of_lt hj)]
      rw [hother1 j (ne_of_lt hj)]
      rcases hst with hst | hst <;> exact enumerated_false (by simp [hst]) (by simp [hst])
    · rw [notify_frame, hframe, ← hs1]
      rfl
  · have hreply : enumReplied 64 serial s = completeEnumeration 64 true s := by simp [enumReplied, slotOf_of_ge]
    obtain ⟨htile, hport, hcond, hframe⟩ := completeEnumeration_spec s 64 true
    refine ⟨_, hexec _ ha, ?_⟩
    rw [hreply]
    refine ⟨?_, ?_, fun q => (PendingKept.of_notify _ _).cond (hcond rfl q), fun p hp => ?_, fun i hi => ?_⟩
    · rw [notify_frame, hframe]
    · rw [notify_frame, hframe]
    · obtain ⟨hresult, hbusy⟩ := hport p hp
      exact ⟨(result_notify _ _ _).trans hresult, (busy_notify _ _ _).trans hbusy⟩
    · rw [tile_notify]
      refine htile i ?_
      rcases hi with hst | hst | hst <;> exact enumerated_false (by simp [hst]) (by simp [hst])

/-- Settles O41: the enumeration is completed with the slots from `n` up VACANT, or aborted with no slot vacated. -/
theorem enumWithoutReplyEndsTheJob : Obligations.EnumWithoutReplyEndsTheJob := by
  intro n s ha hn
  have hexec : exec .enumNoReply s = .next (notify s (enumUnanswered n s)) := by
    show execEnumNoReply s = _
    simp only [execEnumNoReply, ha]
    rfl
  refine ⟨fun h => ?_, fun p hlt htok hab => ?_⟩
  · have hend := enumUnanswered_of_complete s n hn h
    obtain ⟨htile, hport, _, hframe⟩ := completeEnumeration_spec (vacateFrom n s) n false
    refine ⟨_, hexec, ?_⟩
    rw [hend]
    generalize completeEnumeration n false (vacateFrom n s) = u at htile hport hframe ⊢
    refine ⟨fun i hi => ?_, fun i hi hst => ?_, ?_, ?_, fun p hp => ?_, ?_⟩
    · have hv : (vacateFrom n s).tile i = {} := by rw [tile_vacateFrom, if_pos hi]
      rw [tile_notify, htile i (by rw [hv]; rfl), hv]
    · have hv : (vacateFrom n s).tile i = s.tile i := by rw [tile_vacateFrom, if_neg (by omega)]
      rw [tile_notify, htile i ?_, hv]
      rw [hv]
      rcases hst with hst | hst <;> exact enumerated_false (by simp [hst]) (by simp [hst])
    · rw [notify_frame, hframe]; rfl
    · rw [notify_frame, hframe]
    · obtain ⟨hresult, hbusy⟩ := hport p hp
      exact ⟨(result_notify _ _ _).trans hresult, (busy_notify _ _ _).trans hbusy⟩
    · rw [notify_frame, hframe]; rfl
  · have hend : enumUnanswered n s = abortEnumeration n s := by
      have hs : slotOf n = some ⟨n, hlt⟩ := slotOf_val ⟨n, hlt⟩
      simp [enumUnanswered, hs, relearnAborting_of_port s htok hab]
    obtain ⟨htile, hresult, hbusy, _, hframe⟩ := abortEnumeration_spec s n p htok
    refine ⟨_, hexec, ?_⟩
    rw [hend]
    refine ⟨fun i hi => ?_, ?_, ?_, (result_notify _ _ _).trans hresult, (busy_notify _ _ _).trans hbusy, ?_⟩
    · rw [tile_notify, htile, (bindEnumerated_spec s n).2 i (.inr hi)]
    · rw [notify_frame, hframe]
    · rw [notify_frame, hframe]
    · rw [notify_frame, hframe]

end

section
/-! The modal jobs' other ends (R20, R23, R173, R189, R199): pre-emption, RELEARN and RESTART-CHAIN. -/

namespace Sys2Proof.Machine

variable (s : State)

/-- An event that leaves every tile and the budget unit as they are adds no notice. -/
theorem notify_of_sameTiles {s t : State} (ht : t.tiles = s.tiles) (hb : t.budget = s.budget) : notify s t = t :=
  event_of_sameTiles s (fun _ => t) ht hb

theorem port_hold_other (p q : Port) (n : ReqName) (h : q ≠ p) : (hold p n s).port q = s.port q :=
  State.port_putPort_other s p q _ h

/-- A sweep cut from outside ends as it stands, once the chain controller has been told to wind its probe step down (R173). -/
theorem cutSweep_eq (v : Verdict) (why : Option Reason) : ∃ c, cutSweep v why s = endSweep v why (s.setChain c) := by
  unfold cutSweep
  split
  · dsimp only
    split <;> exact ⟨_, rfl⟩
  · exact ⟨s.chain, rfl⟩

/-- A sweep that is pre-empted ends ABORTED PREEMPTED at its port with its tallies, and no tile and no store write moves (R173). -/
theorem preempt_of_sweep {y : Port} (ht : s.token = .sweep y) (hi : s.sweep.issuer = some y) :
    PortsAfter y ⟨.sweep, .aborted, some .preempted, s.sweep.result⟩ {} s (preempt s)
      ∧ ∃ c, preempt s = { s with ports := (preempt s).ports, token := .free, sweep := s.sweep.ended, chain := c } := by
  obtain ⟨c, hc⟩ := cutSweep_eq s .aborted (some .preempted)
  have he : preempt s = endSweep .aborted (some .preempted) (s.setChain c) := by
    rw [← hc]
    simp only [preempt, ht]
  obtain ⟨hports, hframe⟩ := endSweep_spec (s.setChain c) .aborted (some .preempted) y hi
  rw [he]
  exact ⟨hports, c, hframe⟩

theorem preempt_of_free (ht : s.token = .free) : preempt s = s := by simp only [preempt, ht]

/-- The chain controller of a RELEARN just accepted: it sends ENUM 0 where no round is in progress (R20). -/
def ChainCtl.relearned (c : ChainCtl) : ChainCtl :=
  if c.activity = .idle then { c with activity := .enum 0, roundTimer := none, startNow := false } else c

/-- RELEARN once it is accepted: beside the ports, the token and what it pre-empts it moves the chain controller alone (R20). -/
theorem doRelearn_eq (p : Port) (u : Unit) : doRelearn p u s =
    (hold p .relearn ((preempt s).setToken (.relearn (some p)))).setChain (preempt s).chain.relearned := by
  unfold doRelearn ChainCtl.relearned
  dsimp only
  have hchain : (hold p .relearn ((preempt s).setToken (.relearn (some p)))).chain = (preempt s).chain := rfl
  rw [hchain]
  split <;> rfl

/-! ## RESTART-CHAIN -/

/-- The cancelling of the modal job moves the ports, the token and the sweep record alone (R189). -/
theorem cancelJob_frame : cancelJob s = { s with
    ports := (cancelJob s).ports, token := (cancelJob s).token, sweep := (cancelJob s).sweep } := by
  unfold cancelJob
  split
  · rfl
  · exact endSweep_frame s _ _
  · rw [endRelearn_frame]

/-- The effects of a RESTART-CHAIN, block by block, after its cancelling of the job (R23, R104, R160, R189). -/
theorem restartEffects_eq : restartEffects s = { s with
    ports := (cancelJob s).ports, sweep := (cancelJob s).sweep, tiles := Table.fill 64 {}, chain := s.chain.restart
    wall := s.wall.restart s.showRec, budget := s.budget.restart, token := .relearn none } := by
  unfold restartEffects
  rw [cancelJob_frame]
  rfl

end Sys2Proof.Machine

open Sys2Proof Sys2Proof.Machine

/-- Settles O45: the accepted RELEARN, with the token free and with a sweep to pre-empt. -/
theorem relearnIsAccepted : Obligations.RelearnIsAccepted := by
  intro p s hacc
  have hexec : exec (.relearn p []) s = .next (notify s (doRelearn p () (s.setAuth (trafficAuth p s)))) :=
    congrArg Host.Outcome.next (posted_accepted s hacc rfl)
  refine ⟨fun ht => ?_, fun y ht hy hyp => ?_⟩
  · have hpre : preempt (s.setAuth (trafficAuth p s)) = s.setAuth (trafficAuth p s) := preempt_of_free _ ht
    have hquiet := notify_of_sameTiles (s := s) (t := doRelearn p () (s.setAuth (trafficAuth p s)))
      (by rw [doRelearn_eq, hpre]; rfl) (by rw [doRelearn_eq, hpre]; rfl)
    refine ⟨_, hexec, ?_⟩
    rw [hquiet, doRelearn_eq, hpre]
    exact ⟨State.port_putPort_same _ p _, fun q hq => port_hold_other _ p q _ hq, fun ha => if_pos ha, fun ha => if_neg ha, rfl⟩
  · obtain ⟨⟨hport, _⟩, d, hframe⟩ := preempt_of_sweep (s.setAuth (trafficAuth p s)) ht hy
    have hc := doRelearn_eq (s.setAuth (trafficAuth p s)) p ()
    have hholdy : (doRelearn p () (s.setAuth (trafficAuth p s))).port y
        = (preempt (s.setAuth (trafficAuth p s))).port y := by
      rw [hc]
      exact port_hold_other _ p y .relearn hyp
    have hholdp : ((doRelearn p () (s.setAuth (trafficAuth p s))).port p).busy = some .relearn := by
      rw [hc]
      exact congrArg PortRec.busy (State.port_putPort_same _ p _)
    refine ⟨_, hexec, ?_, by rw [busy_notify, hholdp], by rw [busy_notify, hholdy, hport], by rw [result_notify, hholdy, hport]; rfl,
      ?_, ?_, ?_⟩
    all_goals rw [notify_frame, hc]
    · rfl
    · show (preempt (s.setAuth (trafficAuth p s))).sweep.state = _
      rw [hframe]
      rfl
    · show (preempt (s.setAuth (trafficAuth p s))).tiles = _
      rw [hframe]
      rfl
    · show (preempt (s.setAuth (trafficAuth p s))).store = _
      rw [hframe]
      rfl

/-- Settles O46: the cancelled job at its own port, and every other block as the restart leaves it. -/
theorem restartChainStartsTheWallAfresh : Obligations.RestartChainStartsTheWallAfresh := by
  intro p s hacc
  have hexec : exec (.restartChain p []) s = .next (notify s (doRestartChain p () (s.setAuth (trafficAuth p s)))) :=
    congrArg Host.Outcome.next (posted_accepted s hacc rfl)
  obtain ⟨⟨hp, hother⟩, hframe⟩ := complete_spec (restartEffects (s.setAuth (trafficAuth p s))) p .restartChain .done none
    (.restart s.token.job (s.tiles.count Tile.present))
  have hdo : doRestartChain p () (s.setAuth (trafficAuth p s)) = complete p .restartChain .done none
    (.restart s.token.job (s.tiles.count Tile.present)) (restartEffects (s.setAuth (trafficAuth p s))) := rfl
  rw [← hdo] at hp hother hframe
  generalize doRestartChain p () (s.setAuth (trafficAuth p s)) = t at hexec hp hother hframe
  have heff := restartEffects_eq (s.setAuth (trafficAuth p s))
  have hports : ∀ y, y ≠ p → t.port y = (cancelJob (s.setAuth (trafficAuth p s))).port y := fun y hy => by
    rw [hother y hy, PortRec.notice_none, heff]
    rfl
  rw [heff] at hframe
  have htiles : ∀ i, t.tile i = {} := tile_of_fill t (by rw [hframe])
  refine ⟨_, hexec, htiles, by rw [notify_frame, hframe]; rfl, by rw [notify_frame, hframe], by rw [notify_frame, hframe]; rfl,
    by rw [notify_frame, hframe]; rfl, by rw [busy_notify, hp], ⟨s.token.job, by rw [result_notify, hp], ?_, ?_, ?_⟩,
    fun y ht hy hyp => ?_, fun y ht hyp => ?_, fun i hi q => ?_, by rw [notify_frame, hframe]; rfl⟩
  · intro ht; rw [ht]; rfl
  · intro y ht; rw [ht]; rfl
  · intro y ht; rw [ht]; rfl
  · have hcancel : cancelJob (s.setAuth (trafficAuth p s)) = endSweep .aborted (some .restart) (s.setAuth (trafficAuth p s)) := by
      simp only [cancelJob, State.setAuth_token, ht]
    obtain ⟨⟨hy', _⟩, hs⟩ := endSweep_spec (s.setAuth (trafficAuth p s)) .aborted (some .restart) y hy
    refine ⟨?_, ?_, ?_⟩
    · rw [notify_frame, hframe]
      show (cancelJob (s.setAuth (trafficAuth p s))).sweep.state = _
      rw [hcancel, hs]
      rfl
    · rw [busy_notify, hports y hyp, hcancel, hy']
    · rw [result_notify, hports y hyp, hcancel, hy']
      rfl
  · have hcancel : cancelJob (s.setAuth (trafficAuth p s))
        = endRelearn .aborted (some .restart) .nothing (s.setAuth (trafficAuth p s)) := by
      simp only [cancelJob, State.setAuth_token, ht]
    obtain ⟨hy', _⟩ := endRelearn_spec (s.setAuth (trafficAuth p s)) .aborted (some .restart) .nothing y ht
    exact ⟨by rw [busy_notify, hports y hyp, hcancel, hy'], by rw [result_notify, hports y hyp, hcancel, hy']⟩
  · have hdue : tileDue s t = true := by
      refine tileDue_of_slot i ?_
      rw [htiles i]
      simp [tileNotice, hi]
    rw [port_notify, hdue]
    simp [PortRec.notice, Notices.union]

end

section
/-! The scan of the slots ahead with which a probe step begins (R164). -/

namespace Sys2Proof.Machine

variable (s : State)

/-- A slot can be measured exactly where it is ACTIVE and a sweep does not skip it (R164). -/
theorem canBeMeasured_iff (chans : RGB Bool) (t : Tile) :
    CanBeMeasured chans t ↔ t.chain.state = .active ∧ skipped chans t = false := by
  have hall : chans = ⟨true, true, true⟩ ↔ chans.every id = true := by
    obtain ⟨r, g, b⟩ := chans
    simp [RGB.every, and_assoc]
  unfold CanBeMeasured skipped
  rw [hall]
  cases t.prot.overheat.cond <;> cases t.temp.teff <;> cases chans.every id <;> cases t.held.groups.sense <;> simp

/-- The tally of a slot that is not measured: passed over where it is not ACTIVE, skipped where it is (R164). -/
def SweepRec.passBy (tiles : Table Tile 64) (w : SweepRec) (i : Slot) : SweepRec :=
  if (tiles.get i).chain.state ≠ .active then { w.reach i with passed := w.passed + 1 }
  else { w.reach i with skipped := w.skipped + 1 }

/-- A scan passes by every slot that cannot be measured (R164). -/
theorem scanSlots_append {tiles : Table Tile 64} {chans : RGB Bool} (is rest : List Slot) (w : SweepRec)
    (h : ∀ i ∈ is, ¬CanBeMeasured chans (tiles.get i)) :
    scanSlots tiles chans (is ++ rest) w = scanSlots tiles chans rest (is.foldl (SweepRec.passBy tiles) w) := by
  induction is generalizing w with
  | nil => rfl
  | cons i is ih =>
    have hi := h i (by simp)
    rw [canBeMeasured_iff] at hi
    have hrest := fun w => ih w fun j hj => h j (List.mem_cons_of_mem _ hj)
    rw [List.cons_append, scanSlots, List.foldl_cons, SweepRec.passBy]
    by_cases ha : (tiles.get i).chain.state = .active
    · have hs : skipped chans (tiles.get i) = true := by simpa [ha] using hi
      simp only [ha, hs, ne_eq, not_true_eq_false, if_false, if_true]
      exact hrest _
    · simp only [ha, ne_eq, not_false_eq_true, if_true]
      exact hrest _

/-- A scan stops at a slot that can be measured, which becomes the tile in progress (R164). -/
theorem scanSlots_measured {tiles : Table Tile 64} {chans : RGB Bool} (i : Slot) (is : List Slot) (w : SweepRec)
    (h : CanBeMeasured chans (tiles.get i)) : scanSlots tiles chans (i :: is) w = (w.beginTile i (tiles.get i), some i) := by
  obtain ⟨ha, hs⟩ := (canBeMeasured_iff _ _).mp h
  simp [scanSlots, ha, hs]

/-- What passing by a list of slots leaves: the last of them was reached, the cursor is past it, and each is in its tally. -/
theorem foldl_passBy (tiles : Table Tile 64) (is : List Slot) (w : SweepRec) :
    is.foldl (SweepRec.passBy tiles) w = { w with
      lastReached := is.getLast?.or w.lastReached
      cursor := (is.getLast?.map fun i => i.val + 1).or w.cursor
      passed := w.passed + (is.filter fun i => (tiles.get i).chain.state != .active).length
      skipped := w.skipped + (is.filter fun i => (tiles.get i).chain.state == .active).length } := by
  induction is generalizing w with
  | nil => rfl
  | cons i is ih =>
    rw [List.foldl_cons, ih, SweepRec.passBy]
    have hlast : ∀ l : Option Slot, is.getLast?.or (some i) = ((i :: is).getLast?).or l := fun l => by
      rw [List.getLast?_cons]
      cases is.getLast? <;> rfl
    have hcur : ∀ l : Option Nat, (is.getLast?.map fun i => i.val + 1).or (some (i.val + 1))
        = ((i :: is).getLast?.map fun i => i.val + 1).or l := fun l => by
      rw [List.getLast?_cons]
      cases is.getLast? <;> rfl
    rw [← hlast, ← hcur]
    by_cases ha : (tiles.get i).chain.state = .active
    · simp [ha, SweepRec.reach]
      omega
    · simp [ha, SweepRec.reach]
      omega

/-- The slots from number `n` up to slot `m`. -/
def slotsFrom (n : Nat) (m : Slot) : List Slot := slots.filter fun i => decide (n ≤ i.val) && decide (i ≤ m)

theorem mem_slotsFrom {n : Nat} {m i : Slot} : i ∈ slotsFrom n m ↔ n ≤ i.val ∧ i ≤ m := by
  simp [slotsFrom, mem_slots]

/-- The slots below `j` of those from `n` up to `m`, and the split of the list at `j`. -/
theorem slotsFrom_split {n : Nat} {m j : Slot} (hn : n ≤ j.val) (hm : j ≤ m) :
    ∃ rest, slotsFrom n m = (slots.filter fun i => decide (n ≤ i.val) && decide (i < j)) ++ j :: rest := by
  obtain ⟨lo, hi, h, hlo, hhi⟩ := slots_split j
  refine ⟨hi.filter fun i => decide (n ≤ i.val) && decide (i ≤ m), ?_⟩
  have hnone : (hi.filter fun i => decide (n ≤ i.val) && decide (i < j)) = [] :=
    List.filter_eq_nil_iff.mpr fun i hi' => by simp [le_of_lt (hhi i hi')]
  unfold slotsFrom
  rw [h, List.filter_append, List.filter_append, List.filter_cons_of_pos (by simp [hn, hm]), List.filter_cons_of_neg (by simp),
    hnone, List.append_nil]
  congr 1
  refine List.filter_congr fun i hi' => ?_
  simp [hlo i hi', le_trans (le_of_lt (hlo i hi')) hm]

/-- The last of the slots from `n` up to `m` is `m`, where there is one. -/
theorem getLast_slotsFrom (n : Nat) (m : Slot) : (slotsFrom n m).getLast? = if n ≤ m.val then some m else none := by
  split
  · rename_i h
    obtain ⟨lo, hi, hs, _, hhi⟩ := slots_split m
    have hnone : (hi.filter fun i => decide (n ≤ i.val) && decide (i ≤ m)) = [] :=
      List.filter_eq_nil_iff.mpr fun i hi' => by simp [hhi i hi']
    unfold slotsFrom
    rw [hs, List.filter_append, List.filter_cons_of_pos (by simp [h]), hnone, List.getLast?_append]
    rfl
  · rename_i h
    rw [List.getLast?_eq_none_iff, List.eq_nil_iff_forall_not_mem]
    intro i hi
    obtain ⟨h1, h2⟩ := mem_slotsFrom.mp hi
    exact h (le_trans h1 h2)

/-- The tallies of the slots below `j`, as the statements count them. -/
theorem countActive_eq (active : Bool) (n m : Nat) (p : Slot → Bool) (hp : ∀ i, p i = (decide (n ≤ i.val) && decide (i.val < m))) :
    countActive s active n m = ((slots.filter p).filter fun i => ((s.tile i).chain.state == .active) == active).length := by
  unfold countActive
  rw [List.filter_filter]
  congr 1
  refine List.filter_congr fun i _ => ?_
  rw [hp]
  cases decide (n ≤ i.val) <;> cases decide (i.val < m) <;> simp

/-- The sweep record after a scan from slot number `n` up to slot `j`, which becomes the tile in progress (R164). -/
def SweepRec.scannedTo (w : SweepRec) (s : State) (n : Nat) (j : Slot) : SweepRec :=
  { w with
    tile := some j, tsense := (s.tile j).temp.teff, hsense := some ((s.tile j).eng.hours.getD 0)
    readings := ⟨none, none, none⟩, cursor := some (j.val + 1), lastReached := some j
    passed := w.passed + countActive s false n j.val, skipped := w.skipped + countActive s true n j.val }

/-- The sweep record after a scan from slot number `n` past slot `last`, none of them measured (R164). -/
def SweepRec.scannedPast (w : SweepRec) (s : State) (n : Nat) (last : Slot) : SweepRec :=
  { w with
    cursor := some 64, lastReached := if n ≤ last.val then some last else w.lastReached
    passed := w.passed + countActive s false n (last.val + 1), skipped := w.skipped + countActive s true n (last.val + 1) }

/-- A scan from the cursor `n` that meets a slot which can be measured: the slots below it are tallied, and it is the tile in
progress (R164). -/
theorem scan_measured {chans : RGB Bool} {n : Nat} {last j : Slot} (w : SweepRec) (hn : n ≤ j.val) (hl : j ≤ last)
    (hj : CanBeMeasured chans (s.tile j)) (hlt : ∀ m : Slot, n ≤ m.val → m < j → ¬CanBeMeasured chans (s.tile m)) :
    scanSlots s.tiles chans (slotsFrom n last) w = (w.scannedTo s n j, some j) := by
  obtain ⟨rest, hrest⟩ := slotsFrom_split hn hl
  have hbelow : ∀ i ∈ slots.filter fun i => decide (n ≤ i.val) && decide (i < j), ¬CanBeMeasured chans (s.tile i) := by
    intro i hi
    simp only [List.mem_filter, Bool.and_eq_true, decide_eq_true_eq] at hi
    obtain ⟨_, h1, h2⟩ := hi
    exact hlt i h1 h2
  rw [hrest, scanSlots_append _ _ _ hbelow, scanSlots_measured j rest _ hj, foldl_passBy, SweepRec.scannedTo,
    countActive_eq s true n j.val (fun i => decide (n ≤ i.val) && decide (i < j)) fun _ => rfl,
    countActive_eq s false n j.val (fun i => decide (n ≤ i.val) && decide (i < j)) fun _ => rfl]
  simp only [SweepRec.beginTile, SweepRec.reach, RGB.all, State.tile, beq_true, beq_false]
  rfl

/-- A scan from the cursor `n` that meets no slot which can be measured: every slot up to the last is tallied (R164). -/
theorem scan_none {chans : RGB Bool} {n : Nat} {last : Slot} (w : SweepRec)
    (h : ∀ m : Slot, n ≤ m.val → m ≤ last → ¬CanBeMeasured chans (s.tile m)) :
    scanSlots s.tiles chans (slotsFrom n last) w = (w.scannedPast s n last, none) := by
  have hp : ∀ i : Slot, (decide (n ≤ i.val) && decide (i ≤ last)) = (decide (n ≤ i.val) && decide (i.val < last.val + 1)) := by
    intro i
    congr 1
    rw [decide_eq_decide, Nat.lt_succ_iff]
    rfl
  have hall : ∀ i ∈ slotsFrom n last, ¬CanBeMeasured chans (s.tile i) := by
    intro i hi
    obtain ⟨h1, h2⟩ := mem_slotsFrom.mp hi
    exact h i h1 h2
  rw [← List.append_nil (slotsFrom n last), scanSlots_append _ _ _ hall, foldl_passBy, getLast_slotsFrom, SweepRec.scannedPast,
    countActive_eq s true n (last.val + 1) _ hp, countActive_eq s false n (last.val + 1) _ hp]
  simp only [scanSlots, State.tile, beq_true, beq_false, slotsFrom]
  split <;> rfl

end Sys2Proof.Machine
end

section
/-! The frames of a probe step, its end, and what the completion of the poll phase leaves of it (R4, R80, R165 to R173). -/

namespace Sys2Proof.Machine

variable (s : State)

/-! ## The completion of the poll phase -/

/-- A recomputation takes the next number (R80). -/
theorem recompute_number : (recompute s).wall.number = (s.wall.number + 1) % 65536 := by
  show (wallStages _ _ _ _).number = _
  unfold wallStages
  dsimp only
  split <;> rfl

/-- The completion of the poll phase moves tiles, wall record, budget unit, pending sets and the chain controller's activity alone: a
PUSH is in flight, or the round is over (R4, R5, R80). -/
theorem completePollPhase_frame : ∃ a, (a = .idle ∨ ∃ j x, a = .push j x) ∧ completePollPhase s = { s with
    tiles := (recompute s).tiles, wall := (recompute s).wall, budget := (recompute s).budget, ports := (recompute s).ports
    chain := { s.chain with activity := a } } := by
  rcases pushFrom_spec (recompute s) 0 with ⟨h, _⟩ | ⟨j, _, _, h⟩
  · exact ⟨_, .inl rfl, h⟩
  · exact ⟨_, .inr ⟨j, _, rfl⟩, h⟩

/-- What a recomputation adds to a port is pending classes (R200). -/
theorem port_recompute (p : Port) :
    ((recompute s).port p).result = (s.port p).result ∧ ((recompute s).port p).busy = (s.port p).busy := by
  unfold recompute
  dsimp only
  rw [State.port_noticeAll]
  exact ⟨rfl, rfl⟩

/-- What the completion of the poll phase leaves: the sweep, the token, the store, the wind-down, and the results of the ports. -/
theorem completePollPhase_spec :
    (completePollPhase s).sweep = s.sweep ∧ (completePollPhase s).token = s.token ∧ (completePollPhase s).store = s.store
      ∧ (completePollPhase s).chain.windDown = s.chain.windDown
      ∧ (completePollPhase s).wall.number = (s.wall.number + 1) % 65536
      ∧ ((completePollPhase s).chain.activity = .idle ∨ ∃ j x, (completePollPhase s).chain.activity = .push j x)
      ∧ (∀ p, ((completePollPhase s).port p).result = (s.port p).result ∧ ((completePollPhase s).port p).busy = (s.port p).busy)
      ∧ ∀ j, ∃ c, ((completePollPhase s).tile j).prot = { (s.tile j).prot with short := c } := by
  obtain ⟨a, ha, h⟩ := completePollPhase_frame s
  rw [h]
  refine ⟨rfl, rfl, rfl, rfl, recompute_number s, ha, port_recompute s, fun j => ⟨((recompute s).tile j).prot.short, ?_⟩⟩
  obtain ⟨_, _, _, hprot, _⟩ := tile_recompute_frame s j
  exact hprot

/-! ## The choice of a channel -/

theorem nextChan_of_first (w : SweepRec) (x : SweepParams) (c : Chan) (hp : w.params = some x)
    (hr : w.readings = ⟨none, none, none⟩) (hc : FirstChan x.chans c) : w.nextChan = some c := by
  simp only [SweepRec.nextChan, hp, hr, Chan.order]
  rcases hc with ⟨rfl, h⟩ | ⟨rfl, h, h'⟩ | ⟨rfl, h, h', h''⟩ <;> simp [RGB.get, *]

theorem nextChan_of_complete (w : SweepRec) (red green blue : Nat)
    (hr : w.readings = ⟨some red, some green, some blue⟩) : w.nextChan = none := by
  unfold SweepRec.nextChan
  split
  · rfl
  · simp [hr, Chan.order, RGB.get]

/-! ## Whether a step is being wound down -/

theorem sweepAborting_of_none (h : ∀ p, s.sweep.issuer = some p → (s.port p).abortRequested = false) :
    sweepAborting s = false := by
  unfold sweepAborting
  split
  · rfl
  · rename_i p hp
    simp [h p hp]

/-! ## From the cursor on -/

theorem ahead_eq (w : SweepRec) (x : SweepParams) (n : Nat) (hp : w.params = some x) (hc : w.cursor = some n) :
    w.ahead = slotsFrom n x.last := by
  simp only [SweepRec.ahead, hp, hc, Option.getD_some, slotsFrom]

/-- A probe step that goes on from the cursor PATCHes the first channel of the first tile that can be measured (R164). -/
theorem probeFromCursor_measured {x : SweepParams} {n : Nat} {j : Slot} {c : Chan} (hp : s.sweep.params = some x)
    (hc : s.sweep.cursor = some n) (hn : n ≤ j.val) (hl : j ≤ x.last) (hj : CanBeMeasured x.chans (s.tile j))
    (hlt : ∀ m : Slot, n ≤ m.val → m < j → ¬CanBeMeasured x.chans (s.tile m)) (hf : FirstChan x.chans c) :
    probeFromCursor s = (s.setSweep (s.sweep.scannedTo s n j)).setActivity (.patch j c) := by
  have hnext : (s.sweep.scannedTo s n j).nextChan = some c := nextChan_of_first _ x c hp rfl hf
  simp only [probeFromCursor, hp, ahead_eq _ x n hp hc, scan_measured s s.sweep hn hl hj hlt, hnext]

/-- A probe step that goes on from the cursor and finds no tile to measure finishes the range (R164, R171). -/
theorem probeFromCursor_none {x : SweepParams} {n : Nat} (hp : s.sweep.params = some x) (hc : s.sweep.cursor = some n)
    (h : ∀ m : Slot, n ≤ m.val → m ≤ x.last → ¬CanBeMeasured x.chans (s.tile m)) :
    probeFromCursor s = finishRange (s.setSweep (s.sweep.scannedPast s n x.last)) := by
  simp only [probeFromCursor, hp, ahead_eq _ x n hp hc, scan_none s s.sweep h]

/-- A scan fails no tile. -/
theorem scanSlots_failed (tiles : Table Tile 64) (chans : RGB Bool) (is : List Slot) (w : SweepRec) :
    (scanSlots tiles chans is w).1.failed = w.failed := by
  induction is generalizing w with
  | nil => rfl
  | cons i is ih =>
    unfold scanSlots
    dsimp only
    split
    · exact ih _
    · split
      · exact ih _
      · rfl

/-- A probe step that goes on from the cursor reports on no tile and fails none (R164, R171). -/
theorem probeFromCursor_frame :
    (probeFromCursor s).tiles = s.tiles ∧ (probeFromCursor s).sweep.failed = s.sweep.failed := by
  have hend : ∀ (u : State) v why, (endSweep v why u).tiles = u.tiles ∧ (endSweep v why u).sweep.failed = u.sweep.failed := by
    intro u v why
    unfold endSweep
    split <;> exact ⟨rfl, rfl⟩
  have hfin : ∀ u : State, (finishRange u).tiles = u.tiles ∧ (finishRange u).sweep.failed = u.sweep.failed := by
    intro u
    unfold finishRange
    split
    · exact hend u _ _
    · exact ⟨rfl, rfl⟩
  unfold probeFromCursor
  split
  · exact ⟨rfl, rfl⟩
  · dsimp only
    split
    · exact ⟨rfl, scanSlots_failed _ _ _ _⟩
    · obtain ⟨ht, hf⟩ := hfin (s.setSweep (scanSlots s.tiles _ s.sweep.ahead s.sweep).1)
      exact ⟨ht, hf.trans (scanSlots_failed _ _ _ _)⟩

/-! ## The probe step of a round -/

/-- The probe step of a RUNNING sweep sends its PATCH, and where it sends none the poll phase completes (R4). -/
theorem probePhase_of_running (h : s.sweep.state = .running) : probePhase s =
    if (probeStep (s.setActivity .idle)).chain.activity.probing then probeStep (s.setActivity .idle)
    else completePollPhase (probeStep (s.setActivity .idle)) := by
  simp only [probePhase, h, if_true]

/-- What the probe step of a RUNNING sweep has made of the sweep and of the tiles' conditions stands when the round goes on. -/
theorem probePhase_running_frame (h : s.sweep.state = .running) :
    (probePhase s).sweep = (probeStep (s.setActivity .idle)).sweep
      ∧ ∀ j, ∃ c, ((probePhase s).tile j).prot = { ((probeStep (s.setActivity .idle)).tile j).prot with short := c } := by
  rw [probePhase_of_running s h]
  split
  · exact ⟨rfl, fun j => ⟨((probeStep (s.setActivity .idle)).tile j).prot.short, rfl⟩⟩
  · obtain ⟨hsweep, _, _, _, _, _, _, hprot⟩ := completePollPhase_spec (probeStep (s.setActivity .idle))
    exact ⟨hsweep, hprot⟩

theorem probeStep_of_noTile (h : s.sweep.tile = none) : probeStep s = probeFromCursor s := by simp only [probeStep, h]

/-- A tile in progress that can go on has its next channel PATCHed (R165). -/
theorem probeStep_of_next {i : Slot} {c : Chan} (h : s.sweep.tile = some i) (ha : (s.tile i).chain.state = .active)
    (hb : (s.tile i).chain.bound ≠ 0) (ho : (s.tile i).prot.overheat.cond = false) (hc : s.sweep.nextChan = some c) :
    probeStep s = s.setActivity (.patch i c) := by
  simp only [probeStep, h, ha, ho, hc]
  rw [if_pos ⟨trivial, hb⟩]
  rfl

/-- A tile in progress under OVERHEAT is abandoned as skipped (R165). -/
theorem probeStep_of_overheat {i : Slot} (h : s.sweep.tile = some i) (ha : (s.tile i).chain.state = .active)
    (hb : (s.tile i).chain.bound ≠ 0) (ho : (s.tile i).prot.overheat.cond = true) :
    probeStep s = probeFromCursor (s.setSweep { s.sweep.noTile with skipped := s.sweep.skipped + 1 }) := by
  simp only [probeStep, h, ha, ho]
  rw [if_pos ⟨trivial, hb⟩]
  rfl

/-- A tile in progress that is LOST, or not ACTIVE or not bound, fails (R165). -/
theorem probeStep_of_gone {i : Slot} (h : s.sweep.tile = some i)
    (hg : (s.tile i).chain.state ≠ .active ∨ (s.tile i).chain.bound = 0) :
    ((s.tile i).chain.state = .lost → probeStep s = probeFromCursor (failTile i .noReply s.sweep.nextChan s))
      ∧ ((s.tile i).chain.state ≠ .lost → probeStep s = probeFromCursor (failTile i .noProfile none s)) := by
  have hn : ¬((s.tile i).chain.state = .active ∧ (s.tile i).chain.bound ≠ 0) := fun ⟨ha, hb⟩ => hg.elim (· ha) hb
  constructor <;> intro hl <;> simp only [probeStep, h]
  · rw [if_neg hn, if_pos hl]
  · rw [if_neg hn, if_neg hl]

/-- The failure of a tile is reported and tallied (R130, R169). -/
theorem failTile_prot (i : Slot) (why : ProbeReason) (c : Option Chan) : ((failTile i why c s).tile i).prot
    = { (s.tile i).prot with probe := ⟨true, true, true⟩, probeReason := some why, probeChan := c } := by
  show ((s.putTile i _).tile i).prot = _
  rw [State.tile_putTile_same]
  rfl

/-- A probe step whose tile in progress has failed for `why` on channel `c`, through the rest of the round (R130, R165). -/
theorem probePhase_of_failed {i : Slot} {why : ProbeReason} {c : Option Chan} (hr : s.sweep.state = .running)
    (h : probeStep (s.setActivity .idle) = probeFromCursor (failTile i why c (s.setActivity .idle))) :
    ((probePhase s).tile i).prot.probe = ⟨true, true, true⟩ ∧ (probePhase s).sweep.failed = s.sweep.failed + 1
      ∧ ((probePhase s).tile i).prot.probeReason = some why ∧ ((probePhase s).tile i).prot.probeChan = c := by
  obtain ⟨hsweep, hprot⟩ := probePhase_running_frame s hr
  obtain ⟨htiles, hfailed⟩ := probeFromCursor_frame (failTile i why c (s.setActivity .idle))
  obtain ⟨x, hx⟩ := hprot i
  have htile : (probeFromCursor (failTile i why c (s.setActivity .idle))).tile i
      = (failTile i why c (s.setActivity .idle)).tile i := congrArg (·.get i) htiles
  rw [h, htile, failTile_prot] at hx
  rw [hx, hsweep, h, hfailed]
  exact ⟨rfl, rfl, rfl, rfl⟩

/-- The finish of a range with a write outstanding, or with none (R171). -/
theorem finishRange_waiting (h : s.sweep.outstanding ≠ 0) : finishRange s = s.setSweep { s.sweep with state := .waiting } := if_neg h

theorem finishRange_done (h : s.sweep.outstanding = 0) : finishRange s = endSweep .done none s := if_pos h

theorem finishRange_activity : (finishRange s).chain = s.chain ∧ (finishRange s).wall = s.wall := by
  unfold finishRange
  split
  · rw [endSweep_frame]
    exact ⟨rfl, rfl⟩
  · exact ⟨rfl, rfl⟩

/-- A probe step that finds no tile to measure finishes the range, and the poll phase completes (R4, R164, R171). -/
theorem probePhase_none {x : SweepParams} {n : Nat} (hr : s.sweep.state = .running) (htile : s.sweep.tile = none)
    (hp : s.sweep.params = some x) (hc : s.sweep.cursor = some n)
    (h : ∀ m : Slot, n ≤ m.val → m ≤ x.last → ¬CanBeMeasured x.chans (s.tile m)) :
    probePhase s = completePollPhase (finishRange ((s.setActivity .idle).setSweep (s.sweep.scannedPast s n x.last))) := by
  have hstep : probeStep (s.setActivity .idle) = _ :=
    (probeStep_of_noTile (s.setActivity .idle) htile).trans (probeFromCursor_none (s.setActivity .idle) hp hc h)
  have hidle : (probeStep (s.setActivity .idle)).chain.activity = .idle := by
    rw [hstep, (finishRange_activity _).1]
    rfl
  rw [probePhase_of_running s hr, hidle, hstep]
  rfl

/-! ## The end of a probe step -/

/-- The reports of a probe step's end and the store's queue leave the wall record. -/
theorem startQueue_wall (ws : List SenseWrite) : (startQueue ws s).wall = s.wall := by
  induction ws generalizing s with
  | nil => rfl
  | cons w ws ih =>
    unfold startQueue
    split
    · rfl
    · rw [ih, reportSense_frame]

theorem settleProbe_wall (i : Slot) (c : Chan) (e : ProbeEnd) : (settleProbe i c e s).wall = s.wall := by
  have hhand : ∀ u : State, (handOver i u).wall = u.wall := by
    intro u
    unfold handOver handSenseWrite
    dsimp only
    split
    · rfl
    · split
      · rfl
      · split
        · rfl
        · split
          · rfl
          · split
            · rfl
            · exact startQueue_wall _ _
  unfold settleProbe
  split
  · rfl
  · split
    · rw [endSweep_frame]
    · split
      · split
        · rfl
        · exact hhand s
      · rfl
      · rfl
      · rfl

/-- The end of a channel that failed, while its sweep goes on (R130, R169). -/
theorem settleProbe_failed (i : Slot) (c : Chan) (why : ProbeReason) (hw : s.chain.windDown = false)
    (ha : sweepAborting s = false) (hn : why ≠ .noProfile) : settleProbe i c (.failed why) s = failTile i why (some c) s := by
  unfold settleProbe
  rw [hw, ha]
  cases why with
  | noProfile => exact absurd rfl hn
  | _ => rfl

/-- The end of a channel that was accepted, while its sweep goes on (R168, R169). -/
theorem settleProbe_accepted (i : Slot) (c : Chan) (hw : s.chain.windDown = false) (ha : sweepAborting s = false) :
    settleProbe i c .accepted s = if s.sweep.nextChan.isSome then s else handOver i s := by
  unfold settleProbe
  rw [hw, ha]
  rfl

/-- A sense write that fits begins at once in an idle store with an empty queue (R28). -/
theorem handSenseWrite_idle (w : SenseWrite) (hw : s.store.write = none) (hq : s.store.queue = [])
    (hf : s.store.senseFits w = true) :
    handSenseWrite w s = s.setStore { s.store with write := some ⟨.senseWrite w, none⟩, queue := [] } := by
  have hfree : (s.store.writing || !s.store.queue.isEmpty) = false := by simp [Store.writing, hw, hq]
  unfold handSenseWrite
  rw [hfree]
  simp [startQueue, hf]

/-- A tile whose three channels are accepted is handed to the store (R28, R169). -/
theorem handOver_idle (i : Slot) {x : SweepParams} {n : Serial} {r : Profile} {red green blue hs : Nat} {te : Int}
    (hp : s.sweep.params = some x) (hc : x.chans = ⟨true, true, true⟩)
    (hread : s.sweep.readings = ⟨some red, some green, some blue⟩) (hte : s.sweep.tsense = some te)
    (hhs : s.sweep.hsense = some hs) (hstate : (s.tile i).chain.state = .active) (hb : (s.tile i).chain.bound ≠ 0)
    (hn : (s.tile i).chain.serial = some n) (hw : s.store.write = none) (hq : s.store.queue = [])
    (hr : s.store.profile (s.tile i).chain.bound = some r) (hk : r.kind = .tile) (hs' : r.serial = some n) :
    (handOver i s).store.write
        = some ⟨.senseWrite ⟨(s.tile i).chain.bound, n, ⟨⟨red, green, blue⟩, te, hs⟩, i, s.sweep.id⟩, none⟩
      ∧ (handOver i s).sweep = { s.sweep with
          tile := none, tsense := none, hsense := none, readings := ⟨none, none, none⟩
          outstanding := s.sweep.outstanding + 1 } := by
  have hsense : formSense s.sweep x.chans (s.tile i).held.groups.sense = some ⟨⟨red, green, blue⟩, te, hs⟩ := by
    simp [formSense, hc, hread, hte, hhs, RGB.every, RGB.get]
  have hgone : ¬((s.tile i).chain.state ≠ .active ∨ (s.tile i).chain.bound = 0) := by simp [hstate, hb]
  have hfits : s.store.senseFits ⟨(s.tile i).chain.bound, n, ⟨⟨red, green, blue⟩, te, hs⟩, i, s.sweep.id⟩ = true := by
    simp [Store.senseFits, hr, hk, hs']
  have hover : handOver i s = handSenseWrite ⟨(s.tile i).chain.bound, n, ⟨⟨red, green, blue⟩, te, hs⟩, i, s.sweep.id⟩
      (s.setSweep { s.sweep.noTile with outstanding := s.sweep.outstanding + 1 }) := by
    simp only [handOver, hp]
    rw [if_neg (by simp [hstate]), if_neg hgone, hsense, hn]
    rfl
  rw [hover, handSenseWrite_idle (s.setSweep { s.sweep.noTile with outstanding := s.sweep.outstanding + 1 }) _ hw hq hfits]
  exact ⟨rfl, rfl⟩

/-- Two events from states with the same tiles and budget unit that have the same effect add the same notices. -/
theorem notify_congr {s u t : State} (ht : u.tiles = s.tiles) (hb : u.budget = s.budget) : notify u t = notify s t := by
  simp only [notify, tileDue, condDue, State.tile, ht, hb]

/-! ## The commands of a probe step -/

/-- The settle wait goes on to SENSE at range 0 (R166). -/
theorem settleWait_sends_sense {i : Slot} {c : Chan} {s : State} (ha : s.chain.activity = .settle i c)
    (hw : s.chain.windDown = false) (hno : ∀ p, s.sweep.issuer = some p → (s.port p).abortRequested = false) :
    exec .settleWaitEnd s = .next { s with chain := { s.chain with activity := .sense i c 0 } } := by
  have hd : discarding s = false := by simp [discarding, hw, sweepAborting_of_none s hno]
  show execSettleWaitEnd s = _
  simp only [execSettleWaitEnd, ha, hd]
  rfl

/-- The settle wait of a step that an ABORT waits on goes on to PATCH OFF (R172). -/
theorem settleWait_sends_patchOff {i : Slot} {c : Chan} {s : State} {p : Port} (ha : s.chain.activity = .settle i c)
    (hp : s.sweep.issuer = some p) (hs : s.sweep.state ≠ .none) (hab : (s.port p).abortRequested = true) :
    exec .settleWaitEnd s = .next { s with chain := { s.chain with activity := .patchOff i c 0 .discarded } } := by
  have hd : discarding s = true := by simp [discarding, sweepAborting, hp, SweepRec.inProgress, hs, hab]
  show execSettleWaitEnd s = _
  simp only [execSettleWaitEnd, ha, hd, if_true, sendPatchOff]
  rfl

/-- The reply to PATCH OFF ends the step and with it the poll phase (R4, R80, R130, R168, R169, R173). -/
theorem patchOff_reply_ends_step {i : Slot} {c : Chan} {s : State} {r : Nat} {e : ProbeEnd}
    (ha : s.chain.activity = .patchOff i c r e) : ∃ t, exec .patchReply s = .next t
      ∧ (t.tile i).chain.missCount = 0 ∧ t.wall.number = (s.wall.number + 1) % 65536
      ∧ (t.chain.activity = .idle ∨ ∃ j x, t.chain.activity = .push j x)
      ∧ t.sweep = (settleProbe i c e (answeredAt i s)).sweep ∧ t.store = (settleProbe i c e (answeredAt i s)).store
      ∧ t.chain.windDown = (settleProbe i c e (answeredAt i s)).chain.windDown
      ∧ ∃ x, (t.tile i).prot = { ((settleProbe i c e (answeredAt i s)).tile i).prot with short := x } := by
  have hexec : exec .patchReply s = .next (event (fun s => endProbeStep i c e (answeredAt i s)) s) := by
    show execPatchReply s = _
    simp only [execPatchReply, ha]
  have hmiss : ((answeredAt i s).tile i).chain.missCount = 0 := by
    show ((s.putTile i (s.tile i).answered).tile i).chain.missCount = 0
    rw [State.tile_putTile_same]
    rfl
  have hround : RoundStep (answeredAt i s) (event (fun s => endProbeStep i c e (answeredAt i s)) s) :=
    (RoundStep.of_endProbeStep _ i c e).notify
  obtain ⟨hsweep, _, hstore, hwind, hnum, hact, _, hprot⟩ := completePollPhase_spec (settleProbe i c e (answeredAt i s))
  exact ⟨_, hexec, (hround.tile i).chain.missCount.trans hmiss, by rw [settleProbe_wall] at hnum; exact hnum, hact, hsweep, hstore,
    hwind, hprot i⟩

/-- A probe step with no tile in progress (R4, R164, R171). -/
theorem adopt_over_scans {i : Slot} {c : Chan} {s : State} {x : SweepParams} {n : Nat} (ha : s.chain.activity = .adopt i)
    (hr : s.sweep.state = .running) (hp : s.sweep.params = some x) (ht : s.sweep.tile = none) (hc : s.sweep.cursor = some n) :
    (∀ j : Slot, n ≤ j.val → j ≤ x.last → CanBeMeasured x.chans (s.tile j) →
        (∀ m : Slot, n ≤ m.val → m < j → ¬CanBeMeasured x.chans (s.tile m)) → FirstChan x.chans c →
      exec .adoptNoReply s = .next { s with
        chain := { s.chain with activity := .patch j c }
        sweep := { s.sweep with
          tile := some j, tsense := (s.tile j).temp.teff, hsense := some ((s.tile j).eng.hours.getD 0)
          readings := ⟨none, none, none⟩, cursor := some (j.val + 1), lastReached := some j
          passed := s.sweep.passed + countActive s false n j.val
          skipped := s.sweep.skipped + countActive s true n j.val } })
    ∧ ((∀ m : Slot, n ≤ m.val → m ≤ x.last → ¬CanBeMeasured x.chans (s.tile m)) → ∃ t last, exec .adoptNoReply s = .next t
      ∧ last = (if n ≤ x.last.val then some x.last else s.sweep.lastReached)
      ∧ t.wall.number = (s.wall.number + 1) % 65536
      ∧ (s.sweep.outstanding ≠ 0 → t.token = s.token ∧ t.sweep = { s.sweep with
          state := .waiting, cursor := some 64, lastReached := last
          passed := s.sweep.passed + countActive s false n (x.last.val + 1)
          skipped := s.sweep.skipped + countActive s true n (x.last.val + 1) })
      ∧ (∀ p, s.sweep.outstanding = 0 → s.sweep.issuer = some p → t.token = .free ∧ (t.port p).busy = none
        ∧ (t.port p).result = some ⟨.sweep, .done, none, .sweep s.sweep.measured s.sweep.failed
            (s.sweep.skipped + countActive s true n (x.last.val + 1))
            (s.sweep.passed + countActive s false n (x.last.val + 1)) last 0⟩
        ∧ t.sweep = { s.sweep with
            state := .none, cursor := some 64, lastReached := last
            tsense := none, hsense := none, readings := ⟨none, none, none⟩
            passed := s.sweep.passed + countActive s false n (x.last.val + 1)
            skipped := s.sweep.skipped + countActive s true n (x.last.val + 1) })) := by
  have hexec : exec .adoptNoReply s = .next (notify s (probePhase s)) := by
    show execAdoptNoReply s = _
    simp only [execAdoptNoReply, ha]
    rfl
  refine ⟨fun j hn hl hj hlt hf => ?_, fun h => ?_⟩
  · have hstep : probeStep (s.setActivity .idle)
        = ((s.setActivity .idle).setSweep (s.sweep.scannedTo s n j)).setActivity (.patch j c) :=
      (probeStep_of_noTile (s.setActivity .idle) ht).trans (probeFromCursor_measured (s.setActivity .idle) hp hc hn hl hj hlt hf)
    have hphase : probePhase s = ((s.setActivity .idle).setSweep (s.sweep.scannedTo s n j)).setActivity (.patch j c) := by
      rw [probePhase_of_running s hr, hstep]
      rfl
    have hquiet : notify s (probePhase s) = probePhase s := notify_of_sameTiles (by rw [hphase]; rfl) (by rw [hphase]; rfl)
    rw [hexec, hquiet, hphase]
    rfl
  · have hphase := probePhase_none s hr ht hp hc h
    obtain ⟨hsweep, htoken, _, _, hnum, _, hports, _⟩ :=
      completePollPhase_spec (finishRange ((s.setActivity .idle).setSweep (s.sweep.scannedPast s n x.last)))
    rw [← hphase] at hsweep htoken hnum hports
    rw [(finishRange_activity _).2] at hnum
    refine ⟨_, _, hexec, rfl, hnum, fun ho => ?_, fun p ho hi => ?_⟩
    · have hwait := finishRange_waiting ((s.setActivity .idle).setSweep (s.sweep.scannedPast s n x.last)) ho
      rw [hwait] at hsweep htoken
      exact ⟨htoken, hsweep⟩
    · obtain ⟨⟨hport, _⟩, hframe⟩ :=
        endSweep_spec ((s.setActivity .idle).setSweep (s.sweep.scannedPast s n x.last)) .done none p hi
      have hdone := finishRange_done ((s.setActivity .idle).setSweep (s.sweep.scannedPast s n x.last)) ho
      obtain ⟨hresult, hbusy⟩ := hports p
      rw [hdone, hport] at hresult hbusy
      rw [hdone, hframe] at hsweep htoken
      refine ⟨htoken, (busy_notify _ _ _).trans hbusy, (result_notify _ _ _).trans (hresult.trans ?_), hsweep.trans ?_⟩
      · rw [← ho]
        rfl
      · dsimp only
        rw [ht]
        rfl

/-- A probe step with a tile in progress (R4, R165). -/
theorem adopt_over_continues {i k : Slot} {c : Chan} {s : State} (ha : s.chain.activity = .adopt k)
    (hr : s.sweep.state = .running) (ht : s.sweep.tile = some i) :
    ((s.tile i).chain.state = .active → (s.tile i).chain.bound ≠ 0 → (s.tile i).prot.overheat.cond = false →
        s.sweep.nextChan = some c →
      exec .adoptNoReply s = .next { s with chain := { s.chain with activity := .patch i c } })
    ∧ ((s.tile i).chain.state = .active → (s.tile i).chain.bound ≠ 0 → (s.tile i).prot.overheat.cond = true →
      exec .adoptNoReply s = exec .adoptNoReply { s with sweep := { s.sweep with
        tile := none, tsense := none, hsense := none, readings := ⟨none, none, none⟩, skipped := s.sweep.skipped + 1 } })
    ∧ ((s.tile i).chain.state ≠ .active ∨ (s.tile i).chain.bound = 0 → ∃ t, exec .adoptNoReply s = .next t
      ∧ (t.tile i).prot.probe = ⟨true, true, true⟩ ∧ t.sweep.failed = s.sweep.failed + 1
      ∧ ((s.tile i).chain.state = .lost →
          (t.tile i).prot.probeReason = some .noReply ∧ (t.tile i).prot.probeChan = s.sweep.nextChan)
      ∧ ((s.tile i).chain.state ≠ .lost →
          (t.tile i).prot.probeReason = some .noProfile ∧ (t.tile i).prot.probeChan = none)) := by
  have hexec : ∀ u : State, u.chain.activity = .adopt k → exec .adoptNoReply u = .next (notify u (probePhase u)) := by
    intro u hu
    show execAdoptNoReply u = _
    simp only [execAdoptNoReply, hu]
    rfl
  refine ⟨fun hst hb ho hc => ?_, fun hst hb ho => ?_, fun hg => ⟨_, hexec s ha, ?_⟩⟩
  · have hstep := probeStep_of_next (s.setActivity .idle) ht hst hb ho hc
    have hphase : probePhase s = probeStep (s.setActivity .idle) := by
      rw [probePhase_of_running s hr, hstep]
      rfl
    rw [hstep] at hphase
    have hquiet : notify s (probePhase s) = probePhase s := notify_of_sameTiles (by rw [hphase]; rfl) (by rw [hphase]; rfl)
    rw [hexec s ha, hquiet, hphase]
    rfl
  · have hphase : probePhase s = probePhase (s.setSweep { s.sweep.noTile with skipped := s.sweep.skipped + 1 }) := by
      have hstep : probeStep ((s.setSweep { s.sweep.noTile with skipped := s.sweep.skipped + 1 }).setActivity .idle)
          = probeStep (s.setActivity .idle) :=
        (probeStep_of_noTile _ rfl).trans (probeStep_of_overheat (s.setActivity .idle) ht hst hb ho).symm
      rw [probePhase_of_running s hr,
        probePhase_of_running (s.setSweep { s.sweep.noTile with skipped := s.sweep.skipped + 1 }) hr, hstep]
    rw [hexec s ha, hphase]
    exact (congrArg Host.Outcome.next (notify_congr rfl rfl)).trans
      (hexec (s.setSweep { s.sweep.noTile with skipped := s.sweep.skipped + 1 }) ha).symm
  · obtain ⟨hlost, hother⟩ := probeStep_of_gone (s.setActivity .idle) ht hg
    by_cases hl : (s.tile i).chain.state = .lost
    · obtain ⟨hprobe, hfailed, hwhy, hch⟩ := probePhase_of_failed s hr (hlost hl)
      exact ⟨hprobe, hfailed, fun _ => ⟨hwhy, hch⟩, fun h => absurd hl h⟩
    · obtain ⟨hprobe, hfailed, hwhy, hch⟩ := probePhase_of_failed s hr (hother hl)
      exact ⟨hprobe, hfailed, fun h => absurd h hl, fun _ => ⟨hwhy, hch⟩⟩

end Sys2Proof.Machine

open Sys2Proof Sys2Proof.Machine

/-- Settles O43, from the settle wait, the PATCH OFF and the two kinds of start. -/
theorem probeStepRunsToItsEnd : Obligations.ProbeStepRunsToItsEnd := by
  intro i c s
  refine ⟨settleWait_sends_sense, fun p => settleWait_sends_patchOff, fun r e ha => ?_, fun x n => adopt_over_scans,
    fun k => adopt_over_continues⟩
  obtain ⟨t, hexec, hmiss, hnum, hact, hsweep, hstore, hwind, y, hprot⟩ := patchOff_reply_ends_step ha
  refine ⟨t, hexec, hmiss, hnum, hact, fun hw => ?_, fun hw hno => ⟨fun why he hn => ?_, fun x he hx => ?_, ?_⟩⟩
  · have hend : settleProbe i c e (answeredAt i s) = (answeredAt i s).setChain { s.chain with windDown := false } := if_pos hw
    rw [hend] at hsweep hwind
    exact ⟨hsweep, hwind⟩
  all_goals have hab : sweepAborting (answeredAt i s) = false := sweepAborting_of_none _ hno
  · subst he
    rw [settleProbe_failed (answeredAt i s) i c why hw hab hn] at hsweep hprot
    rw [failTile_prot] at hprot
    rw [hprot]
    exact ⟨hsweep, rfl, rfl, rfl⟩
  · subst he
    have hx' : (answeredAt i s).sweep.nextChan = some x := hx
    rw [settleProbe_accepted (answeredAt i s) i c hw hab, hx'] at hsweep
    exact hsweep
  · intro x n r red green blue te hs he hp hc hread hte hhs hst hb hn hwr hq hr hk hser
    subst he
    have hnext : (answeredAt i s).sweep.nextChan = none := nextChan_of_complete _ red green blue hread
    have hanswered : (answeredAt i s).tile i = (s.tile i).answered := State.tile_putTile_same _ _ _
    have hhand := handOver_idle (answeredAt i s) i (n := n) (r := r) hp hc hread hte hhs
    rw [hanswered] at hhand
    obtain ⟨hwrite, hrec⟩ := hhand hst hb hn hwr hq hr hk hser
    rw [settleProbe_accepted (answeredAt i s) i c hw hab, hnext] at hsweep hstore
    exact ⟨(congrArg Store.write hstore).trans hwrite, hsweep.trans hrec⟩

end

section
/-! The standing records: what the part holds until a request of its own, a store-write completion or a reset changes it. Every operation
is shown to leave them, or to change one of them alone. -/

namespace Sys2Proof.Machine

/-- The records that stand until their own commands change them: the store's areas with what verification found lost, the inverse, the
show record and show key, the settings of each block, and the notice masks. -/
structure StandingRecords where
  profiles : Table ProfileCell 96
  map : Table MapCell 256
  inverse : Table (Option Pos) 64
  losses : Nat × Nat × List Nat
  showRec : ShowRec
  key : Option Key
  tempSet : TempSettings
  slewSet : SlewSettings
  protSet : ProtSettings
  missLimit : Nat
  roundInterval : Nat
  budget : BudgetSettings
  mask : Port → Notices

/-- The standing records of a state. -/
def State.records (s : State) : StandingRecords where
  profiles := s.store.profiles
  map := s.store.map
  inverse := s.inverse
  losses := (s.store.profileLosses, s.store.mapLosses, s.store.lost)
  showRec := s.showRec
  key := s.auth.key
  tempSet := s.tempSet
  slewSet := s.slewSet
  protSet := s.protSet
  missLimit := s.chain.missLimit
  roundInterval := s.chain.roundInterval
  budget := s.budget.set
  mask p := (s.port p).mask

variable (s : State)

/-! ## Updates of other records -/

@[simp] theorem records_setToken (x : Token) : (s.setToken x).records = s.records := rfl
@[simp] theorem records_setTiles (x : Table Tile 64) : (s.setTiles x).records = s.records := rfl
@[simp] theorem records_putTile (i : Slot) (x : Tile) : (s.putTile i x).records = s.records := rfl
@[simp] theorem records_setSweep (x : SweepRec) : (s.setSweep x).records = s.records := rfl
@[simp] theorem records_setActivity (a : Activity) : (s.setActivity a).records = s.records := rfl

/-- The chain controller may move in all but its two settings (R6). -/
theorem records_setChain {x : ChainCtl} (hm : x.missLimit = s.chain.missLimit) (hr : x.roundInterval = s.chain.roundInterval) :
    (s.setChain x).records = s.records := by
  simp only [State.records, State.setChain_chain, hm, hr]
  rfl

/-- The authority unit may move in all but the show key (R186). -/
theorem records_setAuth {x : Authority} (h : x.key = s.auth.key) : (s.setAuth x).records = s.records := by
  simp only [State.records, State.setAuth_auth, h]
  rfl

/-- The budget unit may move in all but its settings (R148). -/
theorem records_setBudget {x : Budget} (h : x.set = s.budget.set) : (s.setBudget x).records = s.records := by
  simp only [State.records, State.setBudget_budget, h]
  rfl

/-- The write in flight may begin (R26). -/
@[simp] theorem records_beginWrite (op : WriteOp) (issuer : Option Port) : (beginWrite op issuer s).records = s.records := rfl

/-- A port may move in all but its mask (R201). -/
theorem records_setPorts {x : Ports} (h : ∀ q, (x.get q).mask = (s.port q).mask) : (s.setPorts x).records = s.records := by
  have hm : (fun q => (x.get q).mask) = fun q => (s.port q).mask := funext h
  exact congrArg (fun m => { s.records with mask := m }) hm

theorem records_putPort {p : Port} {x : PortRec} (h : x.mask = (s.port p).mask) : (s.putPort p x).records = s.records := by
  refine records_setPorts s fun q => ?_
  by_cases hq : q = p
  · rw [hq, Ports.get_put_same, h]
  · rw [Ports.get_put_other _ _ _ _ hq]
    rfl

@[simp] theorem records_noticeAll (n : Notices) : (s.noticeAll n).records = s.records :=
  records_setPorts s fun q => by rcases q with (_ | _) | _ <;> rfl

@[simp] theorem records_notify (before : State) : (notify before s).records = s.records := records_noticeAll s _

@[simp] theorem records_event (f : State → State) : (event f s).records = (f s).records := records_notify _ _

@[simp] theorem records_complete (p : Port) (n : ReqName) (v : Verdict) (why : Option Reason) (d : ResultData) :
    (complete p n v why d s).records = s.records := records_putPort s rfl

@[simp] theorem records_finish (p : Port) (n : ReqName) (d : ResultData) : (finish p n d s).records = s.records :=
  records_complete s _ _ _ _ _

@[simp] theorem records_refuse (p : Port) (n : ReqName) (why : Reason) : (refuse p n why s).records = s.records :=
  records_complete s _ _ _ _ _

@[simp] theorem records_hold (p : Port) (n : ReqName) : (hold p n s).records = s.records := records_putPort s rfl

@[simp] theorem records_touch (p : Port) : (touch p s).records = s.records := by
  rw [touch_eq]
  exact records_setAuth s (by rcases p with (_ | _) | _ <;> rfl)

theorem records_ite {c : Prop} [Decidable c] {t u : State} (ht : t.records = s.records) (hu : u.records = s.records) :
    (if c then t else u).records = s.records := by
  split
  · exact ht
  · exact hu

theorem records_foldl {α : Type} {f : State → α → State} (h : ∀ s x, (f s x).records = s.records) (xs : List α) :
    (xs.foldl f s).records = s.records := by
  induction xs generalizing s with
  | nil => rfl
  | cons x xs ih => rw [List.foldl_cons, ih, h]

/-! ## Rounds and sweeps -/

@[simp] theorem records_endSweep (v : Verdict) (why : Option Reason) : (endSweep v why s).records = s.records := by
  unfold endSweep
  split
  · rfl
  · rw [records_complete, records_setToken, records_setSweep]

@[simp] theorem records_recompute : (recompute s).records = s.records := by
  unfold recompute
  dsimp only
  rw [records_noticeAll]
  exact records_setBudget _ (Budget.evaluate_kept _ _).set

@[simp] theorem records_pushFrom (k : Nat) : (pushFrom k s).records = s.records := by
  rcases pushFrom_spec s k with ⟨h, _⟩ | ⟨i, _, _, h⟩ <;> rw [h, records_setActivity]

@[simp] theorem records_completePollPhase : (completePollPhase s).records = s.records := by
  rw [completePollPhase, records_pushFrom, records_recompute]

@[simp] theorem records_failTile (i : Slot) (why : ProbeReason) (c : Option Chan) : (failTile i why c s).records = s.records :=
  rfl

@[simp] theorem records_finishRange : (finishRange s).records = s.records := by
  unfold finishRange
  split <;> simp

@[simp] theorem records_probeFromCursor : (probeFromCursor s).records = s.records := by
  unfold probeFromCursor
  split
  · rfl
  · dsimp only
    split <;> simp

@[simp] theorem records_probeStep : (probeStep s).records = s.records := by
  unfold probeStep
  split
  · simp
  · dsimp only
    split
    · split
      · simp
      · split <;> simp
    · split <;> simp

@[simp] theorem records_probePhase : (probePhase s).records = s.records := by
  unfold probePhase
  split
  · dsimp only
    split <;> simp
  · simp

@[simp] theorem records_adoptPhase : (adoptPhase s).records = s.records := by
  unfold adoptPhase
  split
  · exact records_setChain s rfl rfl
  · simp

@[simp] theorem records_pollFrom (k : Nat) : (pollFrom k s).records = s.records := by
  rcases pollFrom_spec s k with ⟨h, _⟩ | ⟨i, _, _, h⟩ <;> simp [h]

@[simp] theorem records_startRound : (startRound s).records = s.records := by
  rw [startRound, records_pollFrom]
  exact records_setChain s rfl rfl

/-! ## The report of a sense write, and the queue -/

@[simp] theorem records_reportSense (w : SenseWrite) (ok : Bool) : (reportSense w ok s).records = s.records := by
  have hprobe : (reportProbe w ok s).records = s.records := by
    unfold reportProbe
    split
    · split <;> rfl
    · rfl
  have htally : ∀ u : State, (reportTally w ok u).records = u.records := by
    intro u
    unfold reportTally
    split <;> rfl
  have hdone : ∀ u : State, (sweepDoneIfWaiting u).records = u.records := by
    intro u
    unfold sweepDoneIfWaiting
    split <;> simp
  rw [reportSense, hdone, htally, hprobe]

@[simp] theorem records_startQueue (ws : List SenseWrite) : (startQueue ws s).records = s.records := by
  induction ws generalizing s with
  | nil => rfl
  | cons w ws ih =>
    unfold startQueue
    split
    · rfl
    · rw [ih, records_reportSense]

@[simp] theorem records_handSenseWrite (w : SenseWrite) : (handSenseWrite w s).records = s.records := by
  unfold handSenseWrite
  split
  · rfl
  · simp

/-! ## The end of a probe step -/

@[simp] theorem records_handOver (i : Slot) : (handOver i s).records = s.records := by
  unfold handOver
  dsimp only
  split
  · rfl
  · split
    · simp
    · split
      · simp
      · split <;> simp

@[simp] theorem records_settleProbe (i : Slot) (c : Chan) (e : ProbeEnd) : (settleProbe i c e s).records = s.records := by
  unfold settleProbe
  split
  · exact records_setChain s rfl rfl
  · split
    · simp
    · split
      · split <;> simp
      · simp
      · simp
      · rfl

@[simp] theorem records_endProbeStep (i : Slot) (c : Chan) (e : ProbeEnd) : (endProbeStep i c e s).records = s.records := by
  rw [endProbeStep, records_completePollPhase, records_settleProbe]

@[simp] theorem records_sendPatchOff (i : Slot) (c : Chan) (r : Nat) (e : ProbeEnd) :
    (sendPatchOff i c r e s).records = s.records := rfl

@[simp] theorem records_senseReplied (i : Slot) (c : Chan) (r count : Nat) :
    (senseReplied i c r count s).records = s.records := by
  unfold senseReplied
  split
  · rfl
  · split <;> rfl

/-! ## Replies, misses and the enumeration -/

@[simp] theorem records_missAt (i : Slot) : (missAt i s).records = s.records := rfl
@[simp] theorem records_answeredAt (i : Slot) : (answeredAt i s).records = s.records := rfl
@[simp] theorem records_pushReplied (i : Slot) (echo : RGB Nat) : (pushReplied i echo s).records = s.records := rfl
@[simp] theorem records_settleSlot (before : State) (i : Slot) : (settleSlot before i s).records = s.records := rfl
@[simp] theorem records_settleAll (before : State) : (settleAll before s).records = s.records := rfl

@[simp] theorem records_pollReplied (i : Slot) (temp : Option Int) (fault : Bool) (hours load : Nat) (echo : RGB Nat) :
    (pollReplied i temp fault hours load echo s).records = s.records := by
  have hsample : ∀ (x : Option Selection) (u : State), (arrivalSample i x u).records = u.records := by
    intro x u
    unfold arrivalSample
    dsimp only
    split <;> rfl
  unfold pollReplied arrival arrivalReading
  dsimp only
  simp [hsample]

@[simp] theorem records_tryBind (i : Slot) : (tryBind i s).records = s.records := by
  rw [tryBind_frame, records_putTile]

@[simp] theorem records_tryBindIf (p : SlotRec → Bool) (i : Slot) : (tryBindIf p s i).records = s.records := by
  unfold tryBindIf
  split <;> simp

@[simp] theorem records_adoptReplied (i : Slot) (serial : Serial) : (adoptReplied i serial s).records = s.records := by
  unfold adoptReplied joinByAdopt
  dsimp only
  split <;> simp

@[simp] theorem records_bindEnumerated (n : Nat) : (bindEnumerated n s).records = s.records :=
  records_foldl s (fun u i => records_tryBindIf u _ i) _

@[simp] theorem records_retryWaiting : (retryWaiting s).records = s.records :=
  records_foldl s (fun u i => records_tryBindIf u _ i) _

@[simp] theorem records_endRelearn (v : Verdict) (why : Option Reason) (d : ResultData) :
    (endRelearn v why d s).records = s.records := by
  unfold endRelearn
  dsimp only
  split <;> simp

@[simp] theorem records_leaveEnumeration : (leaveEnumeration s).records = s.records := records_setChain s rfl rfl

@[simp] theorem records_sendEnum0 : (sendEnum0 s).records = s.records := records_setChain s rfl rfl

@[simp] theorem records_abortEnumeration (n : Nat) : (abortEnumeration n s).records = s.records := by
  rw [abortEnumeration, records_endRelearn, records_leaveEnumeration, records_bindEnumerated]

@[simp] theorem records_completeEnumeration (n : Nat) (long : Bool) :
    (completeEnumeration n long s).records = s.records := by
  have hlong : ∀ u : State, (u.setChain { u.chain with chainLong := long }).records = u.records := fun u =>
    records_setChain u rfl rfl
  have hcount : ∀ u : State, (u.setChain { u.chain with tileCount := n }).records = u.records := fun u =>
    records_setChain u rfl rfl
  unfold completeEnumeration
  dsimp only
  rw [records_endRelearn, records_leaveEnumeration, hcount, records_bindEnumerated, records_noticeAll, hlong]

@[simp] theorem records_enumReplied (n : Nat) (serial : Serial) : (enumReplied n serial s).records = s.records := by
  unfold enumReplied
  split
  · simp
  · dsimp only
    split <;> simp

@[simp] theorem records_enumUnanswered (n : Nat) : (enumUnanswered n s).records = s.records := by
  unfold enumUnanswered
  split
  · simp
  · split
    · simp
    · rw [records_completeEnumeration]
      rfl

/-! ## Authority, jobs and time -/

@[simp] theorem records_passAuthority (why : LastChange) : (passAuthority why s).records = s.records := by
  have hrestart : ∀ (u : State) (q : Prog), (u.restartTimer q).records = u.records := fun u q =>
    records_setAuth u (by cases q <;> rfl)
  unfold passAuthority
  split
  · dsimp only
    rw [records_noticeAll, records_finish, hrestart, records_setAuth]
    rfl
  · dsimp only
    rw [records_noticeAll, records_setAuth]
    rfl

@[simp] theorem records_expireTimer (q : Prog) : (expireTimer q s).records = s.records := by
  have hset : (s.setAuth (s.auth.setTimer q .expired)).records = s.records := records_setAuth s (by cases q <;> rfl)
  unfold expireTimer
  dsimp only
  split
  · rw [records_passAuthority, hset]
  · exact hset

@[simp] theorem records_cutSweep (v : Verdict) (why : Option Reason) : (cutSweep v why s).records = s.records := by
  unfold cutSweep
  split
  · dsimp only
    rw [records_endSweep]
    split
    · exact records_setChain s rfl rfl
    · exact records_setChain s rfl rfl
  · simp

@[simp] theorem records_preempt : (preempt s).records = s.records := by
  unfold preempt
  split <;> simp

@[simp] theorem records_cancelJob : (cancelJob s).records = s.records := by
  unfold cancelJob
  split <;> simp

@[simp] theorem records_expireRetry (i : Slot) (cls : TimedClass) : (expireRetry i cls s).records = s.records := rfl

@[simp] theorem records_tick : (tick s).records = s.records := by
  have hlive : ∀ q u, (expireDue q u).records = u.records := by
    intro q u
    unfold expireDue
    split <;> simp
  have hretry : ∀ u x, (retryDue u x).records = u.records := by
    intro u x
    unfold retryDue
    split <;> simp
  have hchain : ∀ u, (chainDue u).records = u.records := by
    intro u
    unfold chainDue
    split
    · simp
    · split <;> simp
  unfold tick
  split
  · rfl
  · rw [hchain, records_foldl _ hretry, hlive, hlive]
    rfl

/-! ## Requests that leave every standing record -/

theorem records_claim (p : Port) (wait : Bool) : (doClaim p wait s).records = s.records := by
  unfold doClaim
  split
  · unfold claimBy
    split
    · rw [records_noticeAll, records_finish]
      exact records_setAuth s rfl
    · split
      · simp
      · split
        · rw [records_noticeAll, records_hold]
          exact records_setAuth s rfl
        · simp
  · simp

theorem records_release (p : Port) (u : Unit) : (doRelease p u s).records = s.records := by
  rw [doRelease, records_finish, records_passAuthority]

theorem records_putProfile (p : Port) (x : PutBlock) : (doPutProfile p x s).records = s.records := by
  have hput : ∀ k, (putAt p k x s).records = s.records := by
    intro k
    unfold putAt
    split <;> simp
  unfold doPutProfile
  split
  · simp
  · split
    · split
      · simp
      · exact hput _
    · exact hput _

theorem records_dropProfile (p : Port) (k : Nat) : (doDropProfile p k s).records = s.records := by
  unfold doDropProfile
  split
  · simp
  · split
    · simp
    · split <;> simp

theorem records_putMap (p : Port) (x : Pos × Option Slot) : (doPutMap p x s).records = s.records := by
  unfold doPutMap
  split
  · simp
  · split <;> simp

theorem records_clearMap (p : Port) (u : Unit) : (doClearMap p u s).records = s.records := by
  unfold doClearMap
  split <;> simp

theorem records_setTrack (p : Port) (x : TrackBlock) : (doSetTrack p x s).records = s.records := by
  unfold doSetTrack
  split <;> simp

theorem records_clearFaults (p : Port) (target : Option Slot) : (doClearFaults p target s).records = s.records := by
  have hbudget : ∀ u : State, (u.setBudget (clearBudget target u.budget)).records = u.records := fun u =>
    records_setBudget u (clearBudget_kept target u.budget).set
  refine records_ite s (records_refuse s _ _ _) ?_
  rw [records_finish, records_settleAll, hbudget, records_setTiles]

theorem records_sweepRequest (p : Port) (x : SweepParams) : (doSweep p x s).records = s.records := by
  unfold doSweep
  split <;> simp

theorem records_relearn (p : Port) (u : Unit) : (doRelearn p u s).records = s.records := by
  unfold doRelearn
  dsimp only
  split <;> simp

theorem records_restartChain (p : Port) (u : Unit) : (doRestartChain p u s).records = s.records := by
  have hrest : (restartEffects s).records = (cancelJob s).records := by
    unfold restartEffects
    generalize cancelJob s = v
    rfl
  rw [doRestartChain, records_finish, hrest, records_cancelJob]

theorem records_abort (p : Port) : (doAbort p s).records = s.records := by
  have hask : (askAbort p s).records = s.records := records_putPort s rfl
  unfold doAbort
  split
  · rfl
  · split
    · rfl
    · unfold abortRequest
      split
      · rw [abortClaim, records_noticeAll, records_complete]
        exact records_setAuth s rfl
      · unfold abortSweep
        split
        · exact records_putPort s rfl
        · simp
      · unfold abortRelearn
        split
        · exact hask
        · simp
      · exact hask

theorem records_unknownPost (p : Port) (code : Byte) : (unknownPost p code s).records = s.records := by
  unfold unknownPost
  split
  · exact records_putPort s rfl
  · simp

/-! ## Requests and completions that change records of their own -/

/-- SET-SHOW changes the show record alone (R184). -/
theorem records_setShow (p : Port) (x : ShowBlock) :
    (doSetShow p x s).records = { s.records with showRec := showAfter x s.showRec } := by
  have hm : ∀ old u, (showM old u).records = u.records := by
    intro old u
    unfold showM
    split
    · rfl
    · dsimp only
      split
      · rw [records_cutSweep]
        rfl
      · rfl
  have hw : ∀ old u, (showWant old u).records = u.records := by
    intro old u
    unfold showWant
    split <;> rfl
  have ht : ∀ old u, (showTimeout old u).records = u.records := by
    intro old u
    unfold showTimeout
    split <;> rfl
  rw [doSetShow, records_finish, ht, hw, hm]
  rfl

/-- FREEZE changes the show key alone (R186). -/
theorem records_freeze (p : Port) (k : Key) :
    (doFreeze p k s).records = { s.records with key := (doFreeze p k s).auth.key } := by
  unfold doFreeze
  split
  · rw [records_noticeAll, records_finish]
    rfl
  · split
    · rw [records_finish]
      rfl
    · rw [records_refuse]
      rfl

/-- THAW changes the show key alone (R187). -/
theorem records_thaw (p : Port) (k : Key) :
    (doThaw p k s).records = { s.records with key := (doThaw p k s).auth.key } := by
  unfold doThaw
  split
  · rw [records_finish]
    rfl
  · split
    · rw [records_noticeAll, records_finish]
      rfl
    · rw [records_refuse]
      rfl

/-- SET-TEMP changes the temperature settings alone (R76). -/
theorem records_setTemp (p : Port) (x : TempBlock) :
    (doSetTemp p x s).records = { s.records with tempSet := tempAfter x s.tempSet } := by
  rw [doSetTemp, records_finish]
  split <;> rfl

/-- SET-SLEW changes the slew settings alone (R120). -/
theorem records_setSlew (p : Port) (x : SlewBlock) :
    (doSetSlew p x s).records = { s.records with slewSet := slewAfter x s.slewSet } := by
  rw [doSetSlew, records_finish]
  rfl

/-- SET-PROTECT changes the protection settings, the miss limit and the round interval alone (R6, R136). -/
theorem records_setProtect (p : Port) (x : ProtBlock) : (doSetProtect p x s).records = { s.records with
    protSet := protectAfter x s.protSet, missLimit := setTo x.missLimit (clampNat 1 15) s.chain.missLimit
    roundInterval := setTo x.roundInterval (clampNat 10 1000) s.chain.roundInterval } := by
  rw [doSetProtect, records_finish]
  rfl

/-- SET-BUDGET changes the budget settings alone (R148). -/
theorem records_setBudgetRequest (p : Port) (x : BudgetBlock) :
    (doSetBudget p x s).records = { s.records with budget := (doSetBudget p x s).budget.set } := by
  rw [doSetBudget, records_finish]
  split <;> rfl

/-- SET-NOTICE changes the masks alone (R201). -/
theorem records_setNotice (p : Port) (m : Notices) :
    (doSetNotice p m s).records = { s.records with mask := (doSetNotice p m s).records.mask } := rfl

/-- A store-write completion changes the areas and the inverse alone (R29, R51). -/
theorem records_completeWrite (w : StoreWrite) : (completeWrite w s).records = { s.records with
    profiles := (w.op.apply s.store).profiles, map := (w.op.apply s.store).map
    inverse := w.op.inverse s.store s.inverse } := by
  have hreport : ∀ before u, (w.op.report w.issuer before u).records = u.records := by
    intro before u
    unfold WriteOp.report
    split <;> simp
  have hresolve : ∀ u, (resolveAfter w.op u).records = u.records := by
    intro u
    unfold resolveAfter
    split <;> rfl
  have hlosses : ((w.op.apply s.store).profileLosses, (w.op.apply s.store).mapLosses, (w.op.apply s.store).lost)
      = (s.store.profileLosses, s.store.mapLosses, s.store.lost) := by
    unfold WriteOp.apply
    split
    · rw [putCell_frame]
    · rw [putCell_frame]
    · split
      · rw [putCell_frame]
      · rfl
    · rfl
    · rfl
  rw [completeWrite, records_startQueue, hreport, records_noticeAll, records_retryWaiting, hresolve]
  exact congrArg (fun l => ({ s.records with
    profiles := (w.op.apply s.store).profiles, map := (w.op.apply s.store).map
    inverse := w.op.inverse s.store s.inverse, losses := l } : StandingRecords)) hlosses

/-- The end of a hard reset changes the areas, what was lost of them, the inverse and the masks alone (R31, R51, R192). -/
theorem records_endReset : (endReset s).records = { s.records with
    profiles := (endReset s).store.profiles, map := (endReset s).store.map, inverse := (endReset s).inverse
    losses := (endReset s).records.losses, mask := (endReset s).records.mask } := rfl

end Sys2Proof.Machine
end

section
/-! Which command may change which standing record, command by command, and the step lemma. -/

namespace Sys2Proof.Machine

variable (s : State)

/-- What a command may change of the standing records `x`, to leave `y`: each record at its own commands alone. A hard reset is left
out. -/
def OwnChange (c : Instr) (x y : StandingRecords) : Prop :=
  match c with
  | .hardReset _ _ => True
  | .storeWriteComplete => y = { x with profiles := y.profiles, map := y.map, inverse := y.inverse }
  | .resetnRelease => y = { x with
      profiles := y.profiles, map := y.map, inverse := y.inverse, losses := y.losses, mask := y.mask }
  | .setShow _ _ => y = { x with showRec := y.showRec }
  | .freeze _ _ => y = { x with key := y.key }
  | .thaw _ _ => y = { x with key := y.key }
  | .setTemp _ _ => y = { x with tempSet := y.tempSet }
  | .setSlew _ _ => y = { x with slewSet := y.slewSet }
  | .setProtect _ _ => y = { x with protSet := y.protSet, missLimit := y.missLimit, roundInterval := y.roundInterval }
  | .setBudget _ _ => y = { x with budget := y.budget }
  | .setNotice _ _ => y = { x with mask := y.mask }
  | _ => y = x

/-! ## What a command that is not a record's own leaves of it -/

section
variable {c : Instr} {x y : StandingRecords} (h : OwnChange c x y) (hr : ∀ cause cut, c ≠ .hardReset cause cut)
include h hr

theorem OwnChange.areas (hw : c ≠ .storeWriteComplete) (hn : c ≠ .resetnRelease) :
    y.profiles = x.profiles ∧ y.map = x.map ∧ y.inverse = x.inverse ∧ y.losses = x.losses := by
  unfold OwnChange at h
  split at h
  case h_1 => exact absurd rfl (hr _ _)
  case h_2 => exact absurd rfl hw
  case h_3 => exact absurd rfl hn
  all_goals (rw [h]; exact ⟨rfl, rfl, rfl, rfl⟩)

theorem OwnChange.showRec (ho : ∀ p b, c ≠ .setShow p b) : y.showRec = x.showRec := by
  unfold OwnChange at h
  split at h
  case h_1 => exact absurd rfl (hr _ _)
  case h_4 => exact absurd rfl (ho _ _)
  all_goals rw [h]

theorem OwnChange.key (hf : ∀ p b, c ≠ .freeze p b) (ht : ∀ p b, c ≠ .thaw p b) : y.key = x.key := by
  unfold OwnChange at h
  split at h
  case h_1 => exact absurd rfl (hr _ _)
  case h_5 => exact absurd rfl (hf _ _)
  case h_6 => exact absurd rfl (ht _ _)
  all_goals rw [h]

theorem OwnChange.tempSet (ho : ∀ p b, c ≠ .setTemp p b) : y.tempSet = x.tempSet := by
  unfold OwnChange at h
  split at h
  case h_1 => exact absurd rfl (hr _ _)
  case h_7 => exact absurd rfl (ho _ _)
  all_goals rw [h]

theorem OwnChange.slewSet (ho : ∀ p b, c ≠ .setSlew p b) : y.slewSet = x.slewSet := by
  unfold OwnChange at h
  split at h
  case h_1 => exact absurd rfl (hr _ _)
  case h_8 => exact absurd rfl (ho _ _)
  all_goals rw [h]

theorem OwnChange.protSet (ho : ∀ p b, c ≠ .setProtect p b) :
    y.protSet = x.protSet ∧ y.missLimit = x.missLimit ∧ y.roundInterval = x.roundInterval := by
  unfold OwnChange at h
  split at h
  case h_1 => exact absurd rfl (hr _ _)
  case h_9 => exact absurd rfl (ho _ _)
  all_goals (rw [h]; exact ⟨rfl, rfl, rfl⟩)

theorem OwnChange.budget (ho : ∀ p b, c ≠ .setBudget p b) : y.budget = x.budget := by
  unfold OwnChange at h
  split at h
  case h_1 => exact absurd rfl (hr _ _)
  case h_10 => exact absurd rfl (ho _ _)
  all_goals rw [h]

theorem OwnChange.mask (ho : ∀ p b, c ≠ .setNotice p b) (hn : c ≠ .resetnRelease) : y.mask = x.mask := by
  unfold OwnChange at h
  split at h
  case h_1 => exact absurd rfl (hr _ _)
  case h_3 => exact absurd rfl hn
  case h_11 => exact absurd rfl (ho _ _)
  all_goals rw [h]

end

/-! ## Every command -/

theorem records_transaction {p : Port} {f : State → State} (hf : ∀ u, (f u).records = u.records) :
    (transaction p f s).records = s.records := by
  unfold transaction
  split
  · rfl
  · rw [hf, records_touch]

/-- A POST leaves every standing record, or does what its own effect does from records that stand as they did. -/
theorem records_posted {α : Type} (n : ReqName) (p : Port) (x : Option α) (f : α → State → State) :
    (posted n p x f s).records = s.records
      ∨ ∃ v u, u.records = s.records ∧ (posted n p x f s).records = (f v u).records := by
  have hover : ((touch p s).putPort p { s.port p with overrun := true }).records = s.records := by
    rw [records_putPort _ (by rw [touch_eq]; rfl), records_touch]
  rw [posted, records_event]
  rcases post_cases s n p x f with ⟨_, h⟩ | ⟨_, _, h⟩ | ⟨_, why, _, h⟩ | ⟨_, _, h⟩ | ⟨_, v, _, h⟩
  · exact .inl (by rw [h])
  · exact .inl (by rw [h, hover])
  · exact .inl (by rw [h, records_refuse, records_touch])
  · exact .inl (by rw [h, records_refuse, records_touch])
  · exact .inr ⟨v, touch p s, records_touch s p, by rw [h]⟩

/-- A POST whose effect leaves every standing record. -/
theorem records_posted_same {α : Type} {n : ReqName} {p : Port} {x : Option α} {f : α → State → State}
    (hf : ∀ v u, (f v u).records = u.records) : (posted n p x f s).records = s.records := by
  rcases records_posted s n p x f with h | ⟨v, u, hu, h⟩
  · exact h
  · rw [h, hf, hu]

/-- A POST whose effect changes standing records within `P` changes them within `P`. -/
theorem records_posted_within {α : Type} {n : ReqName} {p : Port} {x : Option α} {f : α → State → State}
    {P : StandingRecords → StandingRecords → Prop} (hrefl : P s.records s.records) (hf : ∀ v u, P u.records (f v u).records) :
    P s.records (posted n p x f s).records := by
  rcases records_posted s n p x f with h | ⟨v, u, hu, h⟩
  · rw [h]
    exact hrefl
  · rw [h, ← hu]
    exact hf v u

/-- Each command of a port changes its own standing records alone. -/
theorem ownChange_of_transactionCommand (c : Instr) (hc : transactionOn c ≠ none) :
    ∃ t, exec c s = .next t ∧ OwnChange c s.records t.records := by
  cases c with
  | status p => exact ⟨_, rfl, records_transaction s fun u => records_putPort u rfl⟩
  | read p kind i0 i1 => exact ⟨_, rfl, records_transaction s fun u => records_putPort u rfl⟩
  | result p => exact ⟨_, rfl, records_transaction s fun u => records_putPort u rfl⟩
  | abort p => exact ⟨_, rfl, records_transaction s fun u => records_abort u p⟩
  | discardedTransaction p => exact ⟨_, rfl, records_transaction s fun u => rfl⟩
  | claim p b => exact ⟨_, rfl, records_posted_same s fun v u => records_claim u p v⟩
  | release p b => exact ⟨_, rfl, records_posted_same s fun v u => records_release u p v⟩
  | setShow p b =>
    exact ⟨_, rfl, records_posted_within s (P := OwnChange (.setShow p b)) rfl fun v u => by rw [records_setShow]; rfl⟩
  | freeze p b =>
    exact ⟨_, rfl, records_posted_within s (P := OwnChange (.freeze p b)) rfl fun v u => by rw [records_freeze]; rfl⟩
  | thaw p b =>
    exact ⟨_, rfl, records_posted_within s (P := OwnChange (.thaw p b)) rfl fun v u => by rw [records_thaw]; rfl⟩
  | setBudget p b =>
    exact ⟨_, rfl, records_posted_within s (P := OwnChange (.setBudget p b)) rfl fun v u => by
      rw [records_setBudgetRequest]; rfl⟩
  | putProfile p b => exact ⟨_, rfl, records_posted_same s fun v u => records_putProfile u p v⟩
  | dropProfile p b => exact ⟨_, rfl, records_posted_same s fun v u => records_dropProfile u p v⟩
  | putMap p b => exact ⟨_, rfl, records_posted_same s fun v u => records_putMap u p v⟩
  | clearMap p b => exact ⟨_, rfl, records_posted_same s fun v u => records_clearMap u p v⟩
  | setTrack p b => exact ⟨_, rfl, records_posted_same s fun v u => records_setTrack u p v⟩
  | setSlew p b =>
    exact ⟨_, rfl, records_posted_within s (P := OwnChange (.setSlew p b)) rfl fun v u => by rw [records_setSlew]; rfl⟩
  | setTemp p b =>
    exact ⟨_, rfl, records_posted_within s (P := OwnChange (.setTemp p b)) rfl fun v u => by rw [records_setTemp]; rfl⟩
  | setProtect p b =>
    exact ⟨_, rfl, records_posted_within s (P := OwnChange (.setProtect p b)) rfl fun v u => by rw [records_setProtect]; rfl⟩
  | clearFaults p b => exact ⟨_, rfl, records_posted_same s fun v u => records_clearFaults u p v⟩
  | sweep p b => exact ⟨_, rfl, records_posted_same s fun v u => records_sweepRequest u p v⟩
  | relearn p b => exact ⟨_, rfl, records_posted_same s fun v u => records_relearn u p v⟩
  | restartChain p b => exact ⟨_, rfl, records_posted_same s fun v u => records_restartChain u p v⟩
  | setNotice p b =>
    exact ⟨_, rfl, records_posted_within s (P := OwnChange (.setNotice p b)) rfl fun v u => records_setNotice u p v⟩
  | unknownRequestPost p code b =>
    refine ⟨_, rfl, ?_⟩
    show State.records _ = s.records
    split
    · rfl
    · exact records_transaction s fun u => records_unknownPost u p code
  | _ => exact absurd rfl hc

theorem records_eventIf {f : State → State} {c : Bool} (hf : (f s).records = s.records) :
    (if c then event f s else s).records = s.records := records_ite s (by rw [records_event, hf]) rfl

/-- Each reply, expiry, start and completion leaves every standing record, but for the end of a store write and of a reset. -/
theorem ownChange_of_chainCommand (c : Instr) (hc : transactionOn c = none) (hr : ∀ cause cut, c ≠ .hardReset cause cut) :
    ∃ t, exec c s = .next t ∧ OwnChange c s.records t.records := by
  cases c with
  | hardReset cause cut => exact absurd rfl (hr cause cut)
  | roundStart => exact ⟨_, rfl, records_eventIf s (records_startRound s)⟩
  | relearnEnumerationStart =>
    refine ⟨_, rfl, ?_⟩
    show State.records _ = s.records
    split <;> simp
  | pollReply temp fault hours load echo =>
    refine ⟨_, rfl, ?_⟩
    show State.records _ = s.records
    split
    · exact records_eventIf s (by simp)
    · rfl
  | pushReply echo =>
    refine ⟨_, rfl, ?_⟩
    show State.records _ = s.records
    split
    · exact records_eventIf s (by simp)
    · rfl
  | senseReply status count =>
    refine ⟨_, rfl, ?_⟩
    show State.records _ = s.records
    split
    · exact records_eventIf s (by simp)
    · rfl
  | settleWaitEnd =>
    refine ⟨_, rfl, ?_⟩
    show State.records _ = s.records
    split
    · split <;> simp
    · rfl
  | patchReply =>
    refine ⟨_, rfl, ?_⟩
    show State.records _ = s.records
    split
    · rw [records_event]
      dsimp only
      split <;> simp
    · simp
    · rfl
  | pollMiss | pushMiss | adoptReply serial | adoptNoReply | enumReply serial | enumNoReply | patchMiss | senseMiss =>
    refine ⟨_, rfl, ?_⟩
    show State.records _ = s.records
    split <;> simp
  | storeWriteComplete =>
    refine ⟨_, rfl, ?_⟩
    split
    · rw [records_event, records_completeWrite]
      rfl
    · rfl
  | livenessTimerExpiry q => exact ⟨_, rfl, records_eventIf s (records_expireTimer s q)⟩
  | retryTimerExpiry i cls => exact ⟨_, rfl, records_eventIf s (records_expireRetry s i cls)⟩
  | resetnRelease =>
    refine ⟨_, rfl, ?_⟩
    split
    · exact records_endReset s
    · rfl
  | _ => simp [transactionOn] at hc

theorem exec_ownChange (c : Instr) (hr : ∀ cause cut, c ≠ .hardReset cause cut) :
    ∃ t, exec c s = .next t ∧ OwnChange c s.records t.records := by
  by_cases hc : transactionOn c = none
  · exact ownChange_of_chainCommand s c hc hr
  · exact ownChange_of_transactionCommand s c hc

end Sys2Proof.Machine

open Sys2Proof Sys2Proof.Machine

/-- Settles O60: time that passes leaves every standing record, and each command changes its own alone. -/
theorem standingRecordsChangeByTheirOwnRequests : Obligations.StandingRecordsChangeByTheirOwnRequests := by
  intro s t hstep hreset
  unfold step at hstep
  split at hstep
  · rename_i c rest hp
    have hr : ∀ cause cut, c ≠ .hardReset cause cut := fun cause cut e => hreset cause cut rest (by rw [hp, e])
    obtain ⟨u, hu, hown⟩ := exec_ownChange (s.setPending rest) c hr
    rw [hu] at hstep
    cases hstep
    have hne : ∀ {d : Instr}, (∀ rest, s.pending ≠ d :: rest) → c ≠ d := fun h e => h rest (by rw [hp, e])
    have hne' : ∀ {d : Port → List Byte → Instr}, (∀ p b rest, s.pending ≠ d p b :: rest) → ∀ p b, c ≠ d p b :=
      fun h p b => hne (h p b)
    refine ⟨fun hw hn => ?_, fun h => hown.showRec hr (hne' h), fun hf ht => hown.key hr (hne' hf) (hne' ht),
      fun h => hown.tempSet hr (hne' h), fun h => hown.slewSet hr (hne' h), fun h => hown.protSet hr (hne' h),
      fun h => hown.budget hr (hne' h), fun h hn q => congrFun (hown.mask hr (hne' h) (hne hn)) q⟩
    obtain ⟨hprofiles, hmap, hinverse, hlosses⟩ := hown.areas hr (hne hw) (hne hn)
    have hlosses := Prod.mk.inj hlosses
    exact ⟨hprofiles, hmap, hinverse, hlosses.1, Prod.mk.inj hlosses.2⟩
  · cases hstep
    have hsame : (tick s).records = s.records := records_tick s
    have hlosses := Prod.mk.inj (congrArg StandingRecords.losses hsame)
    exact ⟨fun _ _ => ⟨congrArg StandingRecords.profiles hsame, congrArg StandingRecords.map hsame,
        congrArg StandingRecords.inverse hsame, hlosses.1, Prod.mk.inj hlosses.2⟩,
      fun _ => congrArg StandingRecords.showRec hsame, fun _ _ => congrArg StandingRecords.key hsame,
      fun _ => congrArg StandingRecords.tempSet hsame, fun _ => congrArg StandingRecords.slewSet hsame,
      fun _ => ⟨congrArg StandingRecords.protSet hsame, congrArg StandingRecords.missLimit hsame,
        congrArg StandingRecords.roundInterval hsame⟩,
      fun _ => congrArg StandingRecords.budget hsame, fun _ _ q => congrFun (congrArg StandingRecords.mask hsame) q⟩

end

section
/-! The release of RESETn (R31, R51, R191, R192): what verification counts, and the state it leads to. -/

namespace Sys2Proof

/-- A property that no record has counts none. -/
theorem Table.count_eq_zero {α : Type} {n : Nat} (t : Table α n) (p : α → Bool) (h : ∀ i, p (t.get i) = false) :
    t.count p = 0 := by
  unfold Table.count
  rw [List.length_eq_zero_iff, List.filter_eq_nil_iff]
  intro x hx
  obtain ⟨k, hk, rfl⟩ := List.getElem_of_mem hx
  simpa [Table.get_eq] using h ⟨k, by rw [← t.size]; exact hk⟩

end Sys2Proof

namespace Sys2Proof.Machine

/-- No record fails its check after verification (R31). -/
theorem verify_profiles_good (st : Store) : st.verify.profiles.count (· == .failing) = 0 := by
  refine Table.count_eq_zero _ _ fun i => ?_
  show ((st.profiles.map ProfileCell.verified).get i == ProfileCell.failing) = false
  rw [Table.get_map]
  cases st.profiles.get i <;> rfl

/-- No map entry fails its check after verification (R31). -/
theorem verify_map_good (st : Store) : st.verify.map.count (· == .failing) = 0 := by
  refine Table.count_eq_zero _ _ fun i => ?_
  show ((st.map.map MapCell.verified).get i == MapCell.failing) = false
  rw [Table.get_map]
  cases st.map.get i <;> rfl

/-- The indices lost are those whose record failed its check (R31). -/
theorem mem_verify_lost (st : Store) (k : Fin 96) : k.val + 1 ∈ st.verify.lost ↔ st.profiles.get k = .failing := by
  show k.val + 1 ∈ st.profiles.entries.filterMap _ ↔ _
  rw [List.mem_filterMap, ← Table.mem_entries]
  constructor
  · rintro ⟨⟨i, v⟩, hmem, hval⟩
    split at hval
    · rename_i hfail
      obtain rfl : i = k := Fin.ext (by simpa using hval)
      rwa [← eq_of_beq hfail]
    · cases hval
  · exact fun h => ⟨_, h, by simp⟩

end Sys2Proof.Machine

open Sys2Proof Sys2Proof.Machine

/-- Settles O3: the release runs verification, builds the inverse from what that leaves, and begins the startup RELEARN. -/
theorem resetnReleaseVerifiesAndBegins : Obligations.ResetnReleaseVerifiesAndBegins := by
  intro s hs
  have hexec : exec .resetnRelease s = .next (endReset s) := congrArg Host.Outcome.next (if_pos hs)
  refine ⟨endReset s, hexec, rfl, rfl, rfl, profile_verify _, entry_verify _, verify_profiles_good _, verify_map_good _, rfl, rfl,
    fun k => (mem_verify_lost _ k).symm, entry_of_buildInverse _, entry_ne_of_buildInverse _, ?_, rfl⟩
  rintro ((_ | _) | _) <;> rfl

end

section
/-! The store's requests (R26, R33 to R38, R53 to R56): what each of the store's questions asks, and the two ends of a request that
reaches the store. -/

namespace Sys2Proof.Machine

/-! ## The profile area -/

theorem mem_profileIndices {k : Nat} : k ∈ profileIndices ↔ 1 ≤ k ∧ k ≤ 96 := by
  simp only [profileIndices, List.mem_map, List.mem_range]
  exact ⟨by rintro ⟨j, hj, rfl⟩; omega, fun h => ⟨k - 1, by omega, by omega⟩⟩

/-- Only the indices 1..96 hold records. -/
theorem range_of_profile {st : Store} {k : Nat} {r : Profile} (h : st.profile k = some r) : 1 ≤ k ∧ k ≤ 96 := by
  by_contra hk
  rw [profile_outside st k hk] at h
  cases h

theorem isBase_iff {st : Store} {k : Nat} : st.isBase k = true ↔ ∃ r, st.profile k = some r ∧ r.kind = .base := by
  unfold Store.isBase
  cases st.profile k <;> simp

theorem linkedTo_iff {st : Store} {k : Nat} :
    st.linkedTo k = true ↔ ∃ j r, j ≠ k ∧ st.profile j = some r ∧ r.link = some k := by
  simp only [Store.linkedTo, List.any_eq_true, Bool.and_eq_true, bne_iff_ne]
  constructor
  · rintro ⟨j, _, hj, hlink⟩
    split at hlink
    · exact ⟨j, _, hj, ‹_›, eq_of_beq hlink⟩
    · cases hlink
  · rintro ⟨j, r, hj, hr, hlink⟩
    exact ⟨j, mem_profileIndices.mpr (range_of_profile hr), hj, by simp [hr, hlink]⟩

theorem serialElsewhere_iff {st : Store} {k : Nat} {x : Profile} : st.serialElsewhere k x = true
    ↔ x.kind = .tile ∧ ∃ j r, j ≠ k ∧ st.profile j = some r ∧ r.kind = .tile ∧ r.serial = x.serial := by
  simp only [Store.serialElsewhere, Bool.and_eq_true, beq_iff_eq, List.any_eq_true, bne_iff_ne]
  refine and_congr_right fun _ => ⟨?_, ?_⟩
  · rintro ⟨j, _, hj, hsame⟩
    split at hsame
    · rw [Bool.and_eq_true, beq_iff_eq, beq_iff_eq] at hsame
      exact ⟨j, _, hj, ‹_›, hsame⟩
    · cases hsame
  · rintro ⟨j, r, hj, hr, hkind, hser⟩
    exact ⟨j, mem_profileIndices.mpr (range_of_profile hr), hj, by simp [hr, hkind, hser]⟩

/-- No index is empty (R35). -/
theorem lowestEmpty_of_full {st : Store} (h : ∀ k, 1 ≤ k → k ≤ 96 → st.profile k ≠ none) : st.lowestEmpty = none := by
  refine List.find?_eq_none.mpr fun k hk => ?_
  obtain ⟨hlo, hhi⟩ := mem_profileIndices.mp hk
  simpa using h k hlo hhi

/-- The lowest empty index (R35). -/
theorem lowestEmpty_of_first {st : Store} {k : Nat} (hlo : 1 ≤ k) (hhi : k ≤ 96) (hk : st.profile k = none)
    (hlt : ∀ j, 1 ≤ j → j < k → st.profile j ≠ none) : st.lowestEmpty = some k := by
  obtain ⟨m, rfl⟩ : ∃ m, k = m + 1 := ⟨k - 1, by omega⟩
  rw [Store.lowestEmpty, profileIndices, List.find?_map, Option.map_eq_some_iff]
  refine ⟨m, List.find?_range_eq_some.mpr ⟨by simp [hk], by simpa using hhi, fun j hj => ?_⟩, rfl⟩
  have := hlt (j + 1) (by omega) (by omega)
  simpa [Option.isSome_iff_ne_none] using this

/-- The sense set a written record takes (R33): none in a BASE record or under CLEAR, the one supplied under SUPPLY, and under KEEP
that of the record with the same kind and serial, if the index holds one. -/
theorem keptSense_spec (st : Store) (k : Nat) (d : Disposition) (r : Profile) :
    (r.kind = .base ∨ d = .clear → keptSense st k d r = none)
      ∧ (r.kind = .tile → d = .supply → keptSense st k d r = r.sense)
      ∧ (∀ q, r.kind = .tile → d = .keep → st.profile k = some q → q.kind = .tile → q.serial = r.serial →
          keptSense st k d r = q.sense)
      ∧ (d = .keep → st.profile k = none → keptSense st k d r = none) := by
  unfold keptSense
  cases hkind : r.kind with
  | base => simp
  | tile =>
    refine ⟨?_, ?_, ?_, ?_⟩
    · rintro (h | rfl)
      · cases h
      · rfl
    · rintro - rfl
      rfl
    · rintro q - rfl hq hkind hser
      simp only [hq]
      exact if_pos ⟨hkind, hser⟩
    · rintro rfl hq
      simp only [hq]

/-! ## The map -/

theorem mapInUse_iff {st : Store} {x : Pos} {c : Option Slot} :
    mapInUse st x c = true ↔ ∃ n y, c = some n ∧ y ≠ x ∧ st.entry y = some n := by
  cases c with
  | none => simp [mapInUse]
  | some n =>
    simp only [mapInUse, Store.placedElsewhere, List.any_eq_true, Bool.and_eq_true, bne_iff_ne, beq_iff_eq]
    constructor
    · rintro ⟨⟨m, v⟩, hmem, hm, hname⟩
      refine ⟨n, posAt m, rfl, fun e => hm (by rw [← e, number_posAt]), ?_⟩
      rw [Store.entry, number_posAt, (Table.mem_entries _ _ _).mp hmem, hname]
    · rintro ⟨m, y, hm, hy, hentry⟩
      obtain rfl := Option.some.inj hm
      exact ⟨(y.number, st.map.get y.number), (Table.mem_entries _ _ _).mpr rfl, fun e => hy (number_inj.mp e), hentry⟩

/-! ## The two ends of a request that reaches the store -/

section
variable {α : Type} {n : ReqName} {p : Port} {x : Option α} {v : α} {f : α → State → State} {s : State}
  (h : Accepts n p s) (hx : x = some v)
include h hx

/-- An accepted request that begins its write holds its port's slot BUSY, and moves nothing else but its port's timer (R26, R193). -/
theorem posted_begins {op : WriteOp}
    (hf : f v (s.setAuth (trafficAuth p s)) = hold p n (beginWrite op (some p) (s.setAuth (trafficAuth p s)))) :
    (posted n p x f s).port p = { s.port p with busy := some n }
      ∧ (∀ q, q ≠ p → (posted n p x f s).port q = s.port q)
      ∧ posted n p x f s = { s with
          ports := (posted n p x f s).ports, auth := trafficAuth p s
          store := { s.store with write := some ⟨op, some p⟩ } } := by
  have hposted : posted n p x f s = hold p n (beginWrite op (some p) (s.setAuth (trafficAuth p s))) := by
    rw [posted_accepted s h hx, hf]
    exact notify_of_sameTiles rfl rfl
  rw [hposted]
  exact ⟨State.port_putPort_same _ _ _, fun q hq => port_hold_other _ p q n hq, rfl⟩

/-- An accepted request that its own conditions refuse completes at its port, and moves nothing else but its port's timer (R194). -/
theorem posted_refused {why : Reason}
    (hf : f v (s.setAuth (trafficAuth p s)) = refuse p n why (s.setAuth (trafficAuth p s))) :
    PortsAfter p ⟨n, .refused, some why, .nothing⟩ {} s (posted n p x f s)
      ∧ posted n p x f s = { s with ports := (posted n p x f s).ports, auth := trafficAuth p s } := by
  have hposted : posted n p x f s = refuse p n why (s.setAuth (trafficAuth p s)) := by
    rw [posted_accepted s h hx, hf]
    exact notify_of_sameTiles rfl rfl
  rw [hposted]
  exact ⟨(complete_spec (s.setAuth (trafficAuth p s)) p n .refused (some why) .nothing).1, rfl⟩

end

/-! ## The requests, where no write is in flight -/

section
variable {p : Port} {s : State} (hw : s.store.write = none)
include hw

theorem not_writing : ¬s.store.writing = true := by simp [Store.writing, hw]

/-- PUT-PROFILE, the index being named or chosen (R35), is judged at that index. -/
theorem doPutProfile_at {x : PutBlock} {k : Nat} (hk : x.index ≠ 0 → k = x.index)
    (hlow : x.index = 0 → s.store.lowestEmpty = some k) : doPutProfile p x s = putAt p k x s := by
  unfold doPutProfile
  rw [if_neg (not_writing hw)]
  by_cases h0 : x.index = 0
  · rw [if_pos h0, hlow h0]
  · rw [if_neg h0, hk h0]

theorem doDropProfile_begins {k : Nat} (hk : (s.store.profile k).isSome = true)
    (hfree : ¬(s.store.isBase k = true ∧ s.store.linkedTo k = true)) :
    doDropProfile p k s = hold p .dropProfile (beginWrite (.dropProfile k) (some p) s) := by
  unfold doDropProfile
  rw [if_neg (not_writing hw), if_neg (by simp [Option.isNone_iff_eq_none, Option.isSome_iff_ne_none.mp hk]),
    if_neg (by rwa [Bool.and_eq_true])]

theorem doPutMap_begins {x : Pos} {c : Option Slot} (h : ∀ n y, c = some n → y ≠ x → s.store.entry y ≠ some n) :
    doPutMap p (x, c) s = hold p .putMap (beginWrite (.putMap x c) (some p) s) := by
  have hfree : ¬mapInUse s.store x c = true := fun hu => by
    obtain ⟨n, y, hc, hy, hentry⟩ := mapInUse_iff.mp hu
    exact h n y hc hy hentry
  unfold doPutMap
  rw [if_neg (not_writing hw), if_neg hfree]

theorem doClearMap_begins (u : Unit) : doClearMap p u s = hold p .clearMap (beginWrite .clearMap (some p) s) :=
  if_neg (not_writing hw)

end

theorem putAt_begins {p : Port} {s : State} {x : PutBlock} {k : Nat} (h : putRefusal s.store k x.record = none) :
    putAt p k x s = hold p .putProfile (beginWrite
      (.putProfile k { x.record with sense := keptSense s.store k x.disposition x.record }) (some p) s) := by
  simp only [putAt, h]

end Sys2Proof.Machine

open Sys2Proof Sys2Proof.Machine

/-- Settles O31, request by request. -/
theorem storeRequestsBeginTheirWrite : Obligations.StoreRequestsBeginTheirWrite := by
  intro p block s hw
  have hw' : (s.setAuth (trafficAuth p s)).store.write = none := hw
  refine ⟨fun x k ha hx hk hlow hok => ?_, fun k ha hx hk hfree => ⟨_, rfl, posted_begins ha hx (doDropProfile_begins hw' hk hfree)⟩,
    fun x c ha hx hfree => ⟨_, rfl, posted_begins ha hx (doPutMap_begins hw' hfree)⟩,
    fun ha => ⟨_, rfl, posted_begins (v := ()) ha rfl (doClearMap_begins hw' ())⟩⟩
  obtain ⟨hclear, hsupply, hkeep, hempty⟩ := keptSense_spec s.store k x.disposition x.record
  have hput := posted_begins ha hx ((doPutProfile_at hw' hk hlow).trans (putAt_begins hok))
  exact ⟨_, { x.record with sense := keptSense s.store k x.disposition x.record }, rfl, rfl, hclear, hsupply, hkeep, hempty, hput⟩

end

section
/-! The conditions that refuse a store request (R27, R34, R35, R36, R38, R54), and why a chain that breaks R36 is found. -/

namespace Sys2Proof.Machine

/-! ## Chains of links -/

/-- The record at `i` links to `j`. -/
def LinksTo (look : Nat → Option Profile) (i j : Nat) : Prop := ∃ r, look i = some r ∧ r.link = some j

/-- A link may not lead to `j` (R40): no record or a TILE record stands there. -/
def DeadEnd (look : Nat → Option Profile) (j : Nat) : Prop := look j = none ∨ ∃ r, look j = some r ∧ r.kind = .tile

variable {look : Nat → Option Profile}

/-- A walk finds a chain of links BADLINK that is longer than the links allowed or ends where a link may not lead (R40). -/
theorem walkFrom_bad {path : List Nat} {links : Nat} {seen : List Nat} {k : Nat} {r : Profile} (hk : look k = some r)
    (hpath : (k :: path).IsChain (LinksTo look)) (hne : path ≠ [])
    (hbad : links < path.length ∨ ∃ j, path.getLast? = some j ∧ DeadEnd look j) : (walkFrom look links seen k r).bad = true := by
  induction path generalizing links seen k r with
  | nil => exact absurd rfl hne
  | cons j rest ih =>
    rw [List.isChain_cons_cons] at hpath
    obtain ⟨⟨r', hr', hlink⟩, hrest⟩ := hpath
    obtain rfl : r = r' := Option.some.inj (hk.symm.trans hr')
    unfold walkFrom
    simp only [hlink]
    cases links with
    | zero => rfl
    | succ left =>
      cases hj : look j with
      | none => rfl
      | some q =>
        dsimp only
        split
        · rfl
        · rename_i hstop
          have hlive : ¬DeadEnd look j := by
            rintro (h | ⟨q', hq', htile⟩)
            · rw [hj] at h
              cases h
            · rw [hj] at hq'
              obtain rfl := Option.some.inj hq'
              exact hstop (.inl htile)
          cases rest with
          | nil =>
            rcases hbad with h | ⟨i, hi, hdead⟩
            · simp at h
            · obtain rfl : j = i := by simpa using hi
              exact absurd hdead hlive
          | cons i rest =>
            refine ih hj hrest (by simp) ?_
            rcases hbad with h | ⟨i', hi', hdead⟩
            · exact .inl (by simpa using h)
            · exact .inr ⟨i', by simpa using hi', hdead⟩

theorem self_mem_reachable (n i : Nat) : i ∈ reachable look n i := by
  cases n with
  | zero => simp [reachable]
  | succ n =>
    unfold reachable
    split <;> simp

/-- A chain of links is reached from its first index. -/
theorem mem_reachable {path : List Nat} {n i k : Nat} (hpath : (i :: path).IsChain (LinksTo look)) (hlen : path.length ≤ n)
    (hk : k ∈ i :: path) : k ∈ reachable look n i := by
  induction path generalizing n i with
  | nil =>
    obtain rfl : k = i := by simpa using hk
    exact self_mem_reachable n k
  | cons j rest ih =>
    rcases List.mem_cons.mp hk with rfl | hk
    · exact self_mem_reachable n k
    · rw [List.isChain_cons_cons] at hpath
      obtain ⟨⟨r, hr, hlink⟩, hrest⟩ := hpath
      obtain ⟨m, rfl⟩ : ∃ m, n = m + 1 := ⟨n - 1, by simp at hlen; omega⟩
      have hnext : (look i).bind (·.link) = some j := by simp [hr, hlink]
      unfold reachable
      simp only [hnext]
      exact List.mem_cons_of_mem _ (ih hrest (by simpa using hlen) hk)

/-- A chain through index `k` that breaks R36 has a record from which the walk is BADLINK and which leads to `k`. -/
theorem BadChainThrough.walk {k : Nat} {x : Profile} (hk : look k = some x) (h : BadChainThrough look k) :
    ∃ i r, look i = some r ∧ k ∈ reachable look 96 i ∧ (walkFrom look 3 [] i r).bad = true := by
  obtain ⟨path, hmem, hlen, hlinks, hbad⟩ := h
  have hchain : path.IsChain (LinksTo look) := List.isChain_iff_getElem.mpr fun n hn =>
    hlinks n _ _ (List.getElem?_eq_getElem (by omega)) (List.getElem?_eq_getElem hn)
  rcases hbad with hlong | ⟨last, hlast, hdead⟩
  · obtain ⟨i, rest, rfl⟩ := List.exists_cons_of_ne_nil (List.ne_nil_of_length_eq_add_one hlong)
    have hrest : rest.length = 4 := by simpa using hlong
    obtain ⟨r, hr, _⟩ := hlinks 0 i rest[0] rfl (by simp)
    exact ⟨i, r, hr, mem_reachable hchain (by omega) hmem,
      walkFrom_bad hr hchain (List.ne_nil_of_length_eq_add_one hrest) (.inl (by omega))⟩
  · obtain ⟨before, after, rfl⟩ := List.append_of_mem hmem
    by_cases hafter : after = []
    · subst hafter
      obtain rfl : k = last := by simpa using hlast
      obtain ⟨front, i, rfl⟩ := (List.eq_nil_or_concat' before).resolve_left (show before ≠ [] by rintro rfl; simp at hlen)
      have hpair : [i, k].IsChain (LinksTo look) := List.IsChain.right_of_append (l₁ := front) (by simpa using hchain)
      obtain ⟨r, hr, _⟩ := (List.isChain_cons_cons.mp hpair).1
      exact ⟨i, r, hr, mem_reachable hpair (by simp) (by simp), walkFrom_bad hr hpair (by simp) (.inr ⟨k, rfl, hdead⟩)⟩
    · refine ⟨k, x, hk, self_mem_reachable _ _, walkFrom_bad hk hchain.right_of_append hafter (.inr ⟨last, ?_, hdead⟩)⟩
      rw [List.getLast?_append, List.getLast?_cons] at hlast
      obtain ⟨j, hj⟩ := List.getLast?_isSome.mpr hafter |> Option.isSome_iff_exists.mp
      simpa [hj] using hlast

/-- A chain through the target that breaks R36 is found before the write. -/
theorem linksOk_false_of_badChain {st : Store} {k : Nat} {x : Profile} (hlo : 1 ≤ k) (hhi : k ≤ 96)
    (h : BadChainThrough (fun j => if j = k then some x else st.profile j) k) : linksOk st k x = false := by
  obtain ⟨i, r, hr, hreach, hwalk⟩ := h.walk (if_pos rfl)
  have hi : 1 ≤ i ∧ i ≤ 96 := by
    by_cases hik : i = k
    · omega
    · exact range_of_profile (by simpa [hik] using hr)
  have hr' : st.lookWith k x i = some r := hr
  have hreach' : (reachable (st.lookWith k x) 96 i).contains k = true := List.contains_iff_mem.mpr hreach
  have hwalk' : (walkFrom (st.lookWith k x) 3 [] i r).bad = true := hwalk
  refine Bool.and_eq_false_iff.mpr (.inr (List.all_eq_false.mpr ⟨i, mem_profileIndices.mpr hi, ?_⟩))
  simp only [hr', hreach', hwalk']
  decide

/-! ## The reasons of a PUT-PROFILE -/

section
variable {st : Store} {k : Nat} {x : Profile}

theorem putRefusal_dupSerial (hkind : x.kind = .tile)
    (h : ∃ j r, j ≠ k ∧ st.profile j = some r ∧ r.kind = .tile ∧ r.serial = x.serial) : putRefusal st k x = some .dupSerial :=
  if_pos (serialElsewhere_iff.mpr ⟨hkind, h⟩)

theorem not_serialElsewhere (h : x.kind = .tile → ∀ j r, j ≠ k → st.profile j = some r → r.kind = .tile → r.serial ≠ x.serial) :
    ¬st.serialElsewhere k x = true := fun he => by
  obtain ⟨hkind, j, r, hj, hr, htile, hser⟩ := serialElsewhere_iff.mp he
  exact h hkind j r hj hr htile hser

theorem putRefusal_inUse (hkind : x.kind = .tile)
    (hfree : ∀ j r, j ≠ k → st.profile j = some r → r.kind = .tile → r.serial ≠ x.serial)
    (hbase : ∃ r, st.profile k = some r ∧ r.kind = .base) (hlink : ∃ j r, j ≠ k ∧ st.profile j = some r ∧ r.link = some k) :
    putRefusal st k x = some .inUse := by
  unfold putRefusal
  rw [if_neg (not_serialElsewhere fun _ => hfree), if_pos]
  simp [isBase_iff.mpr hbase, linkedTo_iff.mpr hlink, hkind]

theorem putRefusal_badLink (hlo : 1 ≤ k) (hhi : k ≤ 96)
    (hfree : x.kind = .tile → ∀ j r, j ≠ k → st.profile j = some r → r.kind = .tile → r.serial ≠ x.serial)
    (hbase : x.kind = .tile → ∀ r, st.profile k = some r → r.kind = .base →
      ∀ j q, j ≠ k → st.profile j = some q → q.link ≠ some k)
    (hbad : BadChainThrough (fun j => if j = k then some x else st.profile j) k) : putRefusal st k x = some .badLink := by
  have hnot : ¬(st.isBase k && x.kind == .tile && st.linkedTo k) = true := by
    rw [Bool.and_eq_true, Bool.and_eq_true, beq_iff_eq]
    rintro ⟨⟨hb, hkind⟩, hl⟩
    obtain ⟨r, hr, hrb⟩ := isBase_iff.mp hb
    obtain ⟨j, q, hj, hq, hlink⟩ := linkedTo_iff.mp hl
    exact hbase hkind r hr hrb j q hj hq hlink
  unfold putRefusal
  rw [if_neg (not_serialElsewhere hfree), if_neg hnot, linksOk_false_of_badChain hlo hhi hbad]
  rfl

theorem readPutProfile_index {b : List Byte} {x : PutBlock} (h : readPutProfile b = some x) : x.index ≤ 96 := by
  unfold readPutProfile at h
  split at h
  · rename_i hb
    split at h
    · split at h
      · cases h
      · cases h
        exact hb.2
    · cases h
  · cases h

/-- The target of a PUT-PROFILE lies in 1..96, and is the index named or the lowest empty one (R35). -/
theorem PutTarget.spec {index : Nat} (h : PutTarget st index k) (hindex : index ≤ 96) :
    (1 ≤ k ∧ k ≤ 96) ∧ (index ≠ 0 → k = index) ∧ (index = 0 → st.lowestEmpty = some k) := by
  rcases h with ⟨h0, rfl⟩ | ⟨rfl, hlo, hhi, hk, hlt⟩
  · exact ⟨⟨by omega, hindex⟩, fun _ => rfl, fun h => absurd h h0⟩
  · exact ⟨⟨hlo, hhi⟩, fun h => absurd rfl h, fun _ => lowestEmpty_of_first hlo hhi hk hlt⟩

end

/-! ## The requests as their conditions refuse them -/

section
variable {p : Port} {s : State}

theorem writing_of_write (hw : s.store.write ≠ none) : s.store.writing = true := by
  simpa [Store.writing, Option.isSome_iff_ne_none] using hw

theorem putAt_refused {x : PutBlock} {k : Nat} {why : Reason} (h : putRefusal s.store k x.record = some why) :
    putAt p k x s = refuse p .putProfile why s := by
  simp only [putAt, h]

/-- A PUT-PROFILE whose target conditions 3 to 5 refuse (R34). -/
theorem doPutProfile_refused {x : PutBlock} {k : Nat} {why : Reason} (hw : s.store.write = none) (hindex : x.index ≤ 96)
    (ht : PutTarget s.store x.index k) (h : putRefusal s.store k x.record = some why) :
    doPutProfile p x s = refuse p .putProfile why s := by
  obtain ⟨_, hnamed, hchosen⟩ := ht.spec hindex
  exact (doPutProfile_at hw hnamed hchosen).trans (putAt_refused h)

theorem doPutProfile_full {x : PutBlock} (hw : s.store.write = none) (h0 : x.index = 0)
    (hfull : ∀ k, 1 ≤ k → k ≤ 96 → s.store.profile k ≠ none) : doPutProfile p x s = refuse p .putProfile .full s := by
  unfold doPutProfile
  rw [if_neg (not_writing hw), if_pos h0, lowestEmpty_of_full hfull]

theorem doDropProfile_notFound {k : Nat} (hw : s.store.write = none) (hk : s.store.profile k = none) :
    doDropProfile p k s = refuse p .dropProfile .notFound s := by
  unfold doDropProfile
  rw [if_neg (not_writing hw), if_pos (by rw [hk]; rfl)]

theorem doDropProfile_inUse {k : Nat} (hw : s.store.write = none) (hbase : ∃ r, s.store.profile k = some r ∧ r.kind = .base)
    (hlink : ∃ j r, j ≠ k ∧ s.store.profile j = some r ∧ r.link = some k) :
    doDropProfile p k s = refuse p .dropProfile .inUse s := by
  have hheld : ¬(s.store.profile k).isNone = true := by
    obtain ⟨r, hr, _⟩ := hbase
    simp [hr]
  unfold doDropProfile
  rw [if_neg (not_writing hw), if_neg hheld, if_pos (by rw [isBase_iff.mpr hbase, linkedTo_iff.mpr hlink]; rfl)]

theorem doPutMap_inUse {x : Pos} {c : Option Slot} (hw : s.store.write = none)
    (h : ∃ n y, c = some n ∧ y ≠ x ∧ s.store.entry y = some n) : doPutMap p (x, c) s = refuse p .putMap .inUse s := by
  unfold doPutMap
  rw [if_neg (not_writing hw), if_pos (mapInUse_iff.mpr h)]

end

end Sys2Proof.Machine

open Sys2Proof Sys2Proof.Machine

/-- Settles O32, request by request and reason by reason. -/
theorem storeConditionsRefuse : Obligations.StoreConditionsRefuse := by
  intro p block s
  refine ⟨fun x ha hx why hwhy => ⟨_, rfl, posted_refused ha hx ?_⟩, fun k ha hx why hwhy => ⟨_, rfl, posted_refused ha hx ?_⟩,
    fun x c ha hx why hwhy => ⟨_, rfl, posted_refused ha hx ?_⟩,
    fun ha hw => ⟨_, rfl, posted_refused (v := ()) ha rfl (if_pos (writing_of_write hw))⟩⟩
  · have hindex := readPutProfile_index hx
    rcases hwhy with ⟨hw, rfl⟩ | ⟨hw, h0, hfull, rfl⟩ | ⟨hw, k, ht, hkind, rfl, hdup⟩
      | ⟨hw, k, ht, hkind, rfl, hfree, hbase, hlink⟩ | ⟨hw, k, ht, rfl, hfirst, hbad⟩
    · exact if_pos (writing_of_write hw)
    · exact doPutProfile_full hw h0 hfull
    · exact doPutProfile_refused hw hindex ht (putRefusal_dupSerial hkind hdup)
    · exact doPutProfile_refused hw hindex ht (putRefusal_inUse hkind hfree hbase hlink)
    · obtain ⟨⟨hlo, hhi⟩, _⟩ := ht.spec hindex
      exact doPutProfile_refused hw hindex ht
        (putRefusal_badLink hlo hhi (fun h => (hfirst h).1) (fun h => (hfirst h).2) hbad)
  · rcases hwhy with ⟨hw, rfl⟩ | ⟨hw, hk, rfl⟩ | ⟨hw, rfl, hbase, hlink⟩
    · exact if_pos (writing_of_write hw)
    · exact doDropProfile_notFound hw hk
    · exact doDropProfile_inUse hw hbase hlink
  · rcases hwhy with ⟨hw, rfl⟩ | ⟨hw, rfl, hused⟩
    · exact if_pos (writing_of_write hw)
    · exact doPutMap_inUse hw hused

end

section
/-! Binding at a store-write completion (R29, R42, R45, R46): what the second and third of its steps make of each slot. -/

namespace Sys2Proof.Machine

/-! ## One slot's records -/

/-- A failed binding is the slot left UNPROFILED, or LOST to return so (R43, R45). -/
theorem failBinding_eq (why : UnprofReason) (w : Working) (t : Tile) : failBinding why w t = leftUnprofiled why w t := by
  unfold failBinding leftUnprofiled
  by_cases h : t.chain.state = .lost
  · simp only [h, if_true]
    rfl
  · simp only [h, if_false]
    rfl

theorem failBinding_waits (why : UnprofReason) (w : Working) (t : Tile) : (failBinding why w t).chain.waits = true := by
  rw [failBinding_eq]
  by_cases h : t.chain.state = .lost <;> simp [leftUnprofiled, SlotRec.waits, h]

/-- A slot that fails to bind twice is as the second failure leaves it. -/
theorem failBinding_failBinding (why why' : UnprofReason) (w w' : Working) (t : Tile) :
    failBinding why w (failBinding why' w' t) = failBinding why w t := by
  simp only [failBinding_eq, leftUnprofiled]
  by_cases h : t.chain.state = .lost <;> simp [h]

/-- A waiting slot that binds (R17, R46, R115). -/
theorem succeedBinding_eq (k : Nat) (w : Working) {t : Tile} (h : t.chain.waits = true) :
    succeedBinding k w t = leftBound k w t := by
  have hstate : t.chain.state = .lost ∨ t.chain.state = .unprofiled := by
    unfold SlotRec.waits at h
    cases hs : t.chain.state <;> simp [hs] at h ⊢
  unfold succeedBinding leftBound
  rcases hstate with hs | hs
  · simp [hs, Tile.setHeld, Tile.setChain, Tile.setSlew]
  · have hne : (SlotState.unprofiled == SlotState.lost) = false := rfl
    cases hp : t.chain.polled <;> simp [hs, hp, hne, Tile.setHeld, Tile.setChain, Tile.setSlew]

section
variable {st : Store} {t : Tile}

/-- A slot whose serial has left the store loses its profile (R45). -/
theorem reresolve_of_gone (h : ∀ j q, st.profile j = some q → q.kind = .tile → q.serial ≠ t.chain.serial) :
    reresolve st t = failBinding .noProfile {} t := by
  unfold reresolve
  split
  · rfl
  · rename_i r hr
    rw [if_neg fun hsame => h _ r hr hsame.1 hsame.2]

/-- A slot whose record still carries its serial is as that resolves (R45). -/
theorem reresolve_of_record {r : Profile} (hr : st.profile t.chain.bound = some r) (hk : r.kind = .tile)
    (hs : r.serial = t.chain.serial) :
    (∀ w, resolve st.profile t.chain.bound r = .ok w → reresolve st t = t.setHeld (.full w))
      ∧ ∀ why w, resolve st.profile t.chain.bound r = .fail why w → reresolve st t = failBinding why w t := by
  constructor
  · intro w hw
    simp only [reresolve, hr, hk, hs, hw, and_self, if_true]
  · intro why w hw
    simp only [reresolve, hr, hk, hs, hw, and_self, if_true]

theorem reresolve_cases (st : Store) (t : Tile) :
    (∃ w, reresolve st t = t.setHeld (.full w)) ∨ ∃ why w, reresolve st t = failBinding why w t := by
  unfold reresolve
  split
  · exact .inr ⟨_, _, rfl⟩
  · split
    · split
      · exact .inl ⟨_, rfl⟩
      · exact .inr ⟨_, _, rfl⟩
    · exact .inr ⟨_, _, rfl⟩

theorem reresolve_prot (st : Store) (t : Tile) : (reresolve st t).prot = t.prot := by
  rcases reresolve_cases st t with ⟨w, h⟩ | ⟨why, w, h⟩
  · rw [h]
    rfl
  · rw [h]
    exact (failBinding_frame why w t).2.2.1

/-- A slot that is resolved again stays bound as it was, or is bound no longer. -/
theorem reresolve_bound (st : Store) (t : Tile) :
    (reresolve st t).chain.bound = t.chain.bound ∨ (reresolve st t).chain.bound = 0 := by
  rcases reresolve_cases st t with ⟨w, h⟩ | ⟨why, w, h⟩
  · exact .inl (by rw [h]; rfl)
  · rw [h, failBinding_eq]
    exact .inr rfl

end

/-! ## Binding tried -/

theorem OnlyRecord.findTile {st : Store} {n : Serial} {b : Nat} {r : Profile} (h : OnlyRecord st n b r) :
    st.findTile n = some b := by
  obtain ⟨hr, hkind, hser, honly⟩ := h
  cases hf : st.findTile n with
  | none =>
    have hnot := List.find?_eq_none.mp hf b (mem_profileIndices.mpr (range_of_profile hr))
    simp [hr, hkind, hser] at hnot
  | some k =>
    have hk := List.find?_some hf
    split at hk
    · rename_i q hq
      rw [Bool.and_eq_true, beq_iff_eq, beq_iff_eq] at hk
      rw [honly k q hq hk.1 hk.2]
    · cases hk

theorem findTile_of_gone {st : Store} {n : Serial}
    (h : ∀ j q, st.profile j = some q → q.kind = .tile → q.serial ≠ some n) : st.findTile n = none := by
  refine List.find?_eq_none.mpr fun k _ => ?_
  cases hq : st.profile k with
  | none => simp
  | some q => simpa using h k q hq

variable (s : State)

/-- A slot whose serial no record carries, or that has none, fails to bind for NOPROFILE (R42, R43). -/
theorem tryBind_of_gone (i : Slot)
    (h : ∀ j q, s.store.profile j = some q → q.kind = .tile → q.serial ≠ (s.tile i).chain.serial) :
    (tryBind i s).tile i = failBinding .noProfile {} (s.tile i) := by
  have hout : bindOutcome s i = (0, .fail .noProfile {}) := by
    unfold bindOutcome
    cases hn : (s.tile i).chain.serial with
    | none => rfl
    | some n =>
      rw [hn] at h
      simp [findTile_of_gone h]
  simp only [tryBind, hout, State.tile_putTile_same]

/-- A slot whose only record is free binds as that resolves (R42, R43). -/
theorem tryBind_of_only (i : Slot) {n : Serial} {b : Nat} {r : Profile} (hn : (s.tile i).chain.serial = some n)
    (h : OnlyRecord s.store n b r) (hfree : ∀ j, j ≠ i → (s.tile j).chain.bound ≠ b) :
    (∀ w, resolve s.store.profile b r = .ok w → (tryBind i s).tile i = succeedBinding b w (s.tile i))
      ∧ ∀ why w, resolve s.store.profile b r = .fail why w → (tryBind i s).tile i = failBinding why w (s.tile i) := by
  have helse : boundElsewhere s i b = false := by
    simp only [boundElsewhere, List.any_eq_false, Bool.and_eq_true, bne_iff_ne, beq_iff_eq, not_and]
    exact fun j _ => hfree j
  have hout : bindOutcome s i = (b, resolve s.store.profile b r) := by
    simp [bindOutcome, hn, h.findTile, helse, h.1]
  constructor
  · intro w hw
    simp only [tryBind, hout, hw, State.tile_putTile_same]
  · intro why w hw
    simp only [tryBind, hout, hw, State.tile_putTile_same]

/-- Each waiting slot is tried once, from a state in which its own records and the store stand as they did and every other slot is as
it was or as it will be. -/
theorem retryWaiting_at {i : Slot} (hi : (s.tile i).chain.waits = true) :
    ∃ u, (retryWaiting s).tile i = (tryBind i u).tile i ∧ u.tile i = s.tile i ∧ u.store = s.store
      ∧ ∀ j, u.tile j = s.tile j ∨ u.tile j = (retryWaiting s).tile j := by
  obtain ⟨lo, hs, hsplit, hlo, hhs⟩ := slots_split i
  have hself : (lo.foldl (tryBindIf SlotRec.waits) s).tile i = s.tile i :=
    tile_foldl_tryBindIf s _ lo i fun h => absurd (hlo i h) (lt_irrefl i)
  have hrest : ∀ j, j ∉ i :: hs → (retryWaiting s).tile j = (lo.foldl (tryBindIf SlotRec.waits) s).tile j := by
    intro j hj
    rw [retryWaiting, hsplit, List.foldl_append, tile_foldl_tryBindIf _ _ _ _ hj]
  refine ⟨lo.foldl (tryBindIf SlotRec.waits) s, ?_, hself, by rw [(foldl_tryBindIf_frame s _ lo).1], fun j => ?_⟩
  · rw [retryWaiting, hsplit, List.foldl_append, List.foldl_cons,
      tile_foldl_tryBindIf _ _ hs i fun h => absurd (hhs i h) (lt_irrefl i),
      tryBindIf_of_waiting _ _ i (by rw [hself]; exact hi)]
  · by_cases hj : j ∈ lo
    · refine .inr (hrest j fun h => ?_).symm
      rcases List.mem_cons.mp h with rfl | h
      · exact absurd (hlo j hj) (lt_irrefl j)
      · exact absurd (hlo j hj) (not_lt_of_gt (hhs j h))
    · exact .inl (tile_foldl_tryBindIf s _ lo j hj)

theorem retryWaiting_frame : retryWaiting s = { s with tiles := (retryWaiting s).tiles } := (foldl_tryBindIf_frame s _ _).1

theorem retryWaiting_of_bound {i : Slot} (hi : (s.tile i).chain.waits = false) : (retryWaiting s).tile i = s.tile i :=
  (foldl_tryBindIf_frame s _ _).2 i hi

/-- A waiting slot whose serial no record carries stays, with reason NOPROFILE (R46). -/
theorem retryWaiting_of_gone {i : Slot} (hi : (s.tile i).chain.waits = true)
    (h : ∀ j q, s.store.profile j = some q → q.kind = .tile → q.serial ≠ (s.tile i).chain.serial) :
    (retryWaiting s).tile i = failBinding .noProfile {} (s.tile i) := by
  obtain ⟨u, htried, htile, hstore, _⟩ := retryWaiting_at s hi
  rw [htried, tryBind_of_gone u i (by rw [hstore, htile]; exact h), htile]

/-- A waiting slot whose only record no other slot is bound to, before or after, binds as that resolves (R46). -/
theorem retryWaiting_of_only {i : Slot} (hi : (s.tile i).chain.waits = true) {n : Serial} {b : Nat} {r : Profile}
    (hn : (s.tile i).chain.serial = some n) (h : OnlyRecord s.store n b r) (hfree : FreeFor i b s (retryWaiting s)) :
    (∀ w, resolve s.store.profile b r = .ok w → (retryWaiting s).tile i = succeedBinding b w (s.tile i))
      ∧ ∀ why w, resolve s.store.profile b r = .fail why w → (retryWaiting s).tile i = failBinding why w (s.tile i) := by
  obtain ⟨u, htried, htile, hstore, hother⟩ := retryWaiting_at s hi
  rw [htried, ← htile, ← hstore]
  refine tryBind_of_only u i (by rw [htile]; exact hn) (by rw [hstore]; exact h) fun j hj => ?_
  obtain ⟨hbefore, hafter⟩ := hfree j hj
  rcases hother j with e | e <;> rw [e]
  · exact hbefore
  · exact hafter

theorem retryWaiting_prot (i : Slot) : ((retryWaiting s).tile i).prot = (s.tile i).prot := by
  cases hi : (s.tile i).chain.waits with
  | false => rw [retryWaiting_of_bound s hi]
  | true =>
    obtain ⟨u, htried, htile, _⟩ := retryWaiting_at s hi
    rw [htried, ← htile]
    rcases tryBind_cases u i with ⟨k, w, hb⟩ | ⟨why, w, hb⟩ <;> rw [hb, State.tile_putTile_same]
    · rw [succeedBinding_eq _ _ (by rw [htile]; exact hi)]
      rfl
    · exact (failBinding_frame why w _).2.2.1

end Sys2Proof.Machine
end

section
/-! The first four steps of a store-write completion (R29), and what they leave. -/

namespace Sys2Proof.Machine

/-- Step 1 of a completion (R29, R51): the area and the inverse after the write. -/
def WriteOp.written (op : WriteOp) (s : State) : State :=
  (s.setStore (op.apply s.store)).setInverse (op.inverse s.store s.inverse)

/-- Steps 1 and 2 of a completion (R29, R45). -/
def WriteOp.resolved (op : WriteOp) (s : State) : State := resolveAfter op (op.written s)

/-- Steps 1 to 4 of a completion (R29, R46). -/
def WriteOp.bound (op : WriteOp) (s : State) : State := (retryWaiting (op.resolved s)).noticeAll { store := true }

/-- A completion is its first four steps, its report, and the queue (R26, R29). -/
theorem completeWrite_eq (w : StoreWrite) (s : State) : completeWrite w s =
    startQueue (w.op.report w.issuer s (w.op.bound s)).store.queue (w.op.report w.issuer s (w.op.bound s)) := rfl

variable (op : WriteOp) (s : State)

/-! ## The areas -/

theorem apply_frame (st : Store) :
    op.apply st = { st with profiles := (op.apply st).profiles, map := (op.apply st).map } := by
  unfold WriteOp.apply
  split
  · rw [putCell_frame]
  · rw [putCell_frame]
  · split
    · rw [putCell_frame]
    · rfl
  · rfl
  · rfl

theorem resolved_frame : op.resolved s = { op.written s with tiles := (op.resolved s).tiles } := by
  unfold WriteOp.resolved resolveAfter
  split <;> rfl

/-- The first four steps move the areas, the inverse, the tiles and the pending sets alone. -/
theorem bound_frame : op.bound s = { s with
    store := op.apply s.store, inverse := op.inverse s.store s.inverse
    tiles := (op.bound s).tiles, ports := (op.bound s).ports } := by
  have hbind := retryWaiting_frame (op.resolved s)
  have hres := resolved_frame op s
  unfold WriteOp.bound
  generalize retryWaiting (op.resolved s) = v at hbind ⊢
  generalize op.resolved s = u at hbind hres
  rw [hbind, hres]
  rfl

@[simp] theorem resolved_store : (op.resolved s).store = op.apply s.store := by
  rw [resolved_frame]
  rfl

@[simp] theorem bound_store : (op.bound s).store = op.apply s.store := by
  rw [bound_frame]

@[simp] theorem bound_inverse : (op.bound s).inverse = op.inverse s.store s.inverse := by
  rw [bound_frame]

@[simp] theorem bound_sweep : (op.bound s).sweep = s.sweep := by
  rw [bound_frame]

@[simp] theorem bound_token : (op.bound s).token = s.token := by
  rw [bound_frame]

/-- STORE is pending at every port from step 4 on (R29). -/
theorem bound_pending (q : Port) : ((op.bound s).port q).pending.store = true := by
  rw [WriteOp.bound, State.port_noticeAll]
  simp [PortRec.notice, Notices.union]

/-! ## The slots -/

/-- A completion of a profile write resolves the slots again that depend on its index. -/
theorem tile_resolved {k : Nat} (h : op.profileIndex = some k) (i : Slot) : (op.resolved s).tile i
    = if (s.tile i).dependsOn k then reresolve (op.apply s.store) (s.tile i) else s.tile i := by
  simp only [WriteOp.resolved, resolveAfter, h, reresolveAll, State.tile_setTiles, Table.get_map]
  rfl

/-- A completion of a map write resolves no slot again. -/
theorem tile_resolved_of_map (h : op.profileIndex = none) (i : Slot) : (op.resolved s).tile i = s.tile i := by
  simp only [WriteOp.resolved, resolveAfter, h]
  rfl

theorem tile_resolved_cases (i : Slot) :
    (op.resolved s).tile i = s.tile i ∨ (op.resolved s).tile i = reresolve (op.apply s.store) (s.tile i) := by
  cases h : op.profileIndex with
  | none => exact .inl (tile_resolved_of_map op s h i)
  | some k =>
    rw [tile_resolved op s h]
    split
    · exact .inr rfl
    · exact .inl rfl

/-- A slot that is bound to no record depends on none. -/
theorem tile_resolved_of_unbound {i : Slot} (h : (s.tile i).chain.bound = 0) : (op.resolved s).tile i = s.tile i := by
  cases hk : op.profileIndex with
  | none => exact tile_resolved_of_map op s hk i
  | some k =>
    rw [tile_resolved op s hk, if_neg]
    simp [Tile.dependsOn, h]

theorem tile_bound (i : Slot) : (op.bound s).tile i = (retryWaiting (op.resolved s)).tile i :=
  State.tile_noticeAll _ _ i

theorem bound_prot (i : Slot) : ((op.bound s).tile i).prot = (s.tile i).prot := by
  rw [tile_bound, retryWaiting_prot]
  rcases tile_resolved_cases op s i with h | h <;> rw [h]
  exact reresolve_prot _ _

/-- A record that no other slot is bound to before or after the first four steps is free between them. -/
theorem freeFor_resolved {i : Slot} {b : Nat} {r : Profile} (hr : (op.apply s.store).profile b = some r)
    (h : FreeFor i b s (op.bound s)) : FreeFor i b (op.resolved s) (retryWaiting (op.resolved s)) := by
  intro j hj
  obtain ⟨hbefore, hafter⟩ := h j hj
  rw [tile_bound] at hafter
  refine ⟨?_, hafter⟩
  have hb : b ≠ 0 := by
    have := range_of_profile hr
    omega
  rcases tile_resolved_cases op s j with e | e
  · rw [e]
    exact hbefore
  · rcases reresolve_bound (op.apply s.store) (s.tile j) with hbound | hbound <;> rw [e, hbound]
    · exact hbefore
    · exact hb.symm

theorem eq_with_prot {x y : Tile} (h : x = y) : x = { y with prot := x.prot } := by
  rw [h]

/-- The waiting slots have been tried (R46). -/
theorem waitingSlotsAreTried_bound : WaitingSlotsAreTried s (op.bound s) := by
  intro i hwaits hunbound
  have htile : (op.resolved s).tile i = s.tile i := tile_resolved_of_unbound op s hunbound
  have hwaits' : ((op.resolved s).tile i).chain.waits = true := by rw [htile]; exact hwaits
  rw [bound_store, tile_bound]
  refine ⟨fun hgone => eq_with_prot ?_, fun n b r hn honly hfree => ?_⟩
  · rw [retryWaiting_of_gone _ hwaits' (by rw [resolved_store, htile]; exact hgone), htile, failBinding_eq]
  · obtain ⟨hok, hfail⟩ := retryWaiting_of_only _ hwaits' (by rw [htile]; exact hn) (by rw [resolved_store]; exact honly)
      (freeFor_resolved op s honly.1 hfree)
    rw [resolved_store, htile] at hok hfail
    exact ⟨fun w hw => eq_with_prot (by rw [hok w hw, succeedBinding_eq _ _ hwaits]),
      fun why w hw => eq_with_prot (by rw [hfail why w hw, failBinding_eq])⟩

/-- The bound slots that depend on the target have been resolved again (R45). -/
theorem boundSlotsAreResolvedAgain_bound {k : Nat} (hk : op.profileIndex = some k) :
    BoundSlotsAreResolvedAgain k s (op.bound s) := by
  refine ⟨fun i hwaits hdep => eq_with_prot ?_, fun i hwaits _ hdep => ?_⟩
  · have htile : (op.resolved s).tile i = s.tile i := by rw [tile_resolved op s hk, hdep]; rfl
    rw [tile_bound, retryWaiting_of_bound _ (by rw [htile]; exact hwaits), htile]
  · have htile : (op.resolved s).tile i = reresolve (op.apply s.store) (s.tile i) := by
      rw [tile_resolved op s hk, if_pos hdep]
    rw [bound_store, tile_bound]
    refine ⟨fun hgone => eq_with_prot ?_, fun r w hr hkind hser hw => ?_, fun n r why w hn honly hfree hw => eq_with_prot ?_⟩
    · rw [reresolve_of_gone hgone] at htile
      have hser : ((op.resolved s).tile i).chain.serial = (s.tile i).chain.serial := by rw [htile, failBinding_eq]; rfl
      rw [retryWaiting_of_gone _ (by rw [htile]; exact failBinding_waits _ _ _) (by rw [resolved_store, hser]; exact hgone),
        htile, failBinding_failBinding, failBinding_eq]
    · have hheld : (op.resolved s).tile i = (s.tile i).setHeld (.full w) := by
        rw [htile, (reresolve_of_record hr hkind hser).1 w hw]
      rw [retryWaiting_of_bound _ (by rw [hheld]; exact hwaits), hheld]
      rfl
    · obtain ⟨hr, hkind, hser, _⟩ := id honly
      have hfail : (op.resolved s).tile i = failBinding why w (s.tile i) := by
        rw [htile, (reresolve_of_record hr hkind (hser.trans hn.symm)).2 why w hw]
      have hser' : ((op.resolved s).tile i).chain.serial = some n := by rw [hfail, failBinding_eq]; exact hn
      rw [(retryWaiting_of_only _ (by rw [hfail]; exact failBinding_waits _ _ _) hser' (by rw [resolved_store]; exact honly)
          (freeFor_resolved op s honly.1 hfree)).2 why w (by rw [resolved_store]; exact hw),
        hfail, failBinding_failBinding, failBinding_eq]

/-- A slot that does not wait is left by a map write (R46). -/
theorem tile_bound_of_map (h : op.profileIndex = none) {i : Slot} (hi : (s.tile i).chain.waits = false) :
    (op.bound s).tile i = s.tile i := by
  have htile := tile_resolved_of_map op s h i
  rw [tile_bound, retryWaiting_of_bound _ (by rw [htile]; exact hi), htile]

end Sys2Proof.Machine
end

section
/-! The completion of a write that a request of a port holds, with no sense write queued (R29), and of a map write (R55, R56). -/

namespace Sys2Proof.Machine

variable {s t u : State}

/-! ## What the steps after binding leave of it -/

/-- The tiles of `t` are those of `u` but for their protection records. -/
def SameButProt (u t : State) : Prop := ∀ i, t.tile i = { u.tile i with prot := (t.tile i).prot }

theorem SameButProt.of_tiles (h : ∀ i, t.tile i = u.tile i) : SameButProt u t := fun i => by rw [h i]

theorem SameButProt.chain (h : SameButProt u t) (i : Slot) : (t.tile i).chain = (u.tile i).chain := (congrArg Tile.chain (h i) :)

/-- A tile that is `x` in `u` is `x` in `t` but for its protection record. -/
theorem SameButProt.tile (h : SameButProt u t) {i : Slot} {x : Tile} (hx : u.tile i = { x with prot := (u.tile i).prot }) :
    t.tile i = { x with prot := (t.tile i).prot } := by
  rw [h i, hx]

theorem SameButProt.freeFor (h : SameButProt u t) {i : Slot} {b : Nat} (hf : FreeFor i b s t) : FreeFor i b s u := by
  intro j hj
  rw [← h.chain j]
  exact hf j hj

theorem OnlyRecord.of_profile {st st' : Store} (h : st'.profile = st.profile) {n : Serial} {b : Nat} {r : Profile}
    (ho : OnlyRecord st' n b r) : OnlyRecord st n b r := by
  unfold OnlyRecord at ho ⊢
  rwa [h] at ho

theorem WaitingSlotsAreTried.of_same (h : WaitingSlotsAreTried s u) (hp : t.store.profile = u.store.profile)
    (ht : SameButProt u t) : WaitingSlotsAreTried s t := by
  intro i hwaits hbound
  obtain ⟨hgone, honly⟩ := h i hwaits hbound
  rw [hp]
  refine ⟨fun hg => ht.tile (hgone hg), fun n b r hn ho hf => ?_⟩
  obtain ⟨hok, hfail⟩ := honly n b r hn (ho.of_profile hp) (ht.freeFor hf)
  exact ⟨fun w hw => ht.tile (hok w hw), fun why w hw => ht.tile (hfail why w hw)⟩

theorem BoundSlotsAreResolvedAgain.of_same {k : Nat} (h : BoundSlotsAreResolvedAgain k s u)
    (hp : t.store.profile = u.store.profile) (ht : SameButProt u t) : BoundSlotsAreResolvedAgain k s t := by
  refine ⟨fun i hwaits hdep => ht.tile (h.1 i hwaits hdep), fun i hwaits hstate hdep => ?_⟩
  obtain ⟨hgone, hok, hfail⟩ := h.2 i hwaits hstate hdep
  rw [hp]
  exact ⟨fun hg => ht.tile (hgone hg), fun r w hr hk hs hw => ht.tile (x := { s.tile i with held := .full w }) (hok r w hr hk hs hw),
    fun n r why w hn ho hf hw => ht.tile (hfail n r why w hn (ho.of_profile hp) (ht.freeFor hf) hw)⟩

/-! ## The end of a request's write -/

theorem PendingKept.store (h : PendingKept s t) {q : Port} (hq : (s.port q).pending.store = true) :
    (t.port q).pending.store = true := by
  rw [← h q]
  simp [Notices.union, hq]

theorem exec_storeWriteComplete {w : StoreWrite} (hw : s.store.write = some w) :
    exec .storeWriteComplete s = .next (notify s (completeWrite w s)) := by
  show Host.Outcome.next _ = _
  rw [hw]
  rfl

/-- A request that completes with no sense write queued leaves the store IDLE and moves its port alone beside. -/
theorem startQueue_finish (p : Port) (n : ReqName) (d : ResultData) (hq : u.store.queue = []) :
    startQueue (finish p n d u).store.queue (finish p n d u)
      = (finish p n d u).setStore { u.store with write := none, queue := [] } := by
  show startQueue u.store.queue _ = _
  rw [hq]
  rfl

/-- The completion of a request's write with no sense write queued: the areas and the inverse after the write, an IDLE store, the tiles as
binding has left them, the request completed DONE, and STORE told to every port (R29). -/
theorem requestWrite_completes {op : WriteOp} {p : Port} {n : ReqName} {d : ResultData}
    (hw : s.store.write = some ⟨op, some p⟩) (hq : s.store.queue = [])
    (hr : op.report (some p) s (op.bound s) = finish p n d (op.bound s)) :
    ∃ t, exec .storeWriteComplete s = .next t ∧ t.store = { op.apply s.store with write := none, queue := [] }
      ∧ t.inverse = op.inverse s.store s.inverse ∧ (∀ i, t.tile i = (op.bound s).tile i)
      ∧ (t.port p).result = some ⟨n, .done, none, d⟩ ∧ (t.port p).busy = none ∧ ∀ q, (t.port q).pending.store = true := by
  have hstore := bound_store op s
  have hinverse := bound_inverse op s
  have hpending := bound_pending op s
  have hqueue : (op.bound s).store.queue = [] := by rw [hstore, apply_frame, hq]
  refine ⟨_, exec_storeWriteComplete hw, ?_⟩
  rw [completeWrite_eq]
  dsimp only
  rw [hr, startQueue_finish p n d hqueue, ← hstore, ← hinverse]
  generalize op.bound s = u at hpending
  refine ⟨rfl, rfl, fun i => rfl, ?_, ?_, fun q => ?_⟩
  · rw [result_notify, State.port_setStore, finish, complete, State.port_putPort_same]
    rfl
  · rw [busy_notify, State.port_setStore, finish, complete, State.port_putPort_same]
    rfl
  · have hkept : PendingKept u (notify s ((finish p n d u).setStore { u.store with write := none, queue := [] })) :=
      (PendingKept.of_complete u _ _ _ _ _).trans (.of_notify _ s)
    exact hkept.store (hpending q)

/-! ## Map writes -/

/-- The slots after a map write: those that waited have been tried, the others stand, and no condition has moved (R46). -/
theorem slots_of_mapWrite {op : WriteOp} (hk : op.profileIndex = none) (hp : t.store.profile = (op.apply s.store).profile)
    (ht : ∀ i, t.tile i = (op.bound s).tile i) : WaitingSlotsAreTried s t ∧ (∀ i, (t.tile i).prot = (s.tile i).prot)
      ∧ ∀ i, (s.tile i).chain.waits = false → t.tile i = s.tile i :=
  ⟨(waitingSlotsAreTried_bound op s).of_same (by rw [hp, bound_store]) (.of_tiles ht),
    fun i => by rw [ht i, bound_prot], fun i hi => by rw [ht i, tile_bound_of_map op s hk hi]⟩

end Sys2Proof.Machine

open Sys2Proof Sys2Proof.Machine

/-- Settles O33, for the one entry of a PUT-MAP and for the whole map of a CLEAR-MAP. -/
theorem mapWriteCompletes : Obligations.MapWriteCompletes := by
  intro p s hq
  refine ⟨fun x c hw => ?_, fun hw => ?_⟩
  · obtain ⟨t, hexec, hstore, hinverse, htile, hresult, hbusy, hpending⟩ :=
      requestWrite_completes (n := .putMap) (d := .putMap x (s.store.entry x) c) hw hq rfl
    have hentry : ∀ y, t.store.entry y = if y = x then c else s.store.entry y := fun y => by
      rw [hstore]
      exact entry_put s.store x y c
    have hget : ∀ i, t.inverse.get i = if c = some i then some x else if s.store.entry x = some i then none else s.inverse.get i :=
      fun i => by
        rw [hinverse]
        exact inverseAfterPut_get _ _ _ _ _
    obtain ⟨htried, hprot, hkeep⟩ := slots_of_mapWrite (op := .putMap x c) rfl (by rw [hstore]; rfl) htile
    exact ⟨t, hexec, by rw [hentry, if_pos rfl], fun y hy => by rw [hentry, if_neg hy], fun k => by rw [hstore]; rfl,
      by rw [hstore], fun i hc hold => by rw [hget, if_neg hc, if_pos hold], fun i hc => by rw [hget, if_pos hc],
      fun i hc hold => by rw [hget, if_neg hc, if_neg hold], hresult, hbusy, hpending, htried, hprot, hkeep⟩
  · obtain ⟨t, hexec, hstore, hinverse, htile, hresult, hbusy, hpending⟩ :=
      requestWrite_completes (n := .clearMap) (d := .clearMap s.store.mapped) hw hq rfl
    have hentry : ∀ y, t.store.entry y = none := fun y => by
      rw [hstore]
      exact congrArg MapCell.names (Table.get_fill _ _)
    have hget : ∀ i, t.inverse.get i = none := fun i => by
      rw [hinverse]
      exact Table.get_fill _ _
    obtain ⟨htried, hprot, hkeep⟩ := slots_of_mapWrite (op := .clearMap) rfl (by rw [hstore]; rfl) htile
    exact ⟨t, hexec, hentry, fun k => by rw [hstore]; rfl, by rw [hstore], hget, hresult, hbusy, hpending, htried, hprot, hkeep⟩

end

section
/-! The report of a sense write (R170, R171), the queue of sense writes (R26, R28), and the completion of a profile write (R29). -/

namespace Sys2Proof.Machine

variable {s t u : State}

/-! ## The report of a sense write -/

/-- The protection record of a slot that a report reaches (R130, R170): PROBE becomes INACTIVE at a success and ACTIVE with reason
NOPROFILE at a failure. -/
def ProtRec.reported (r : ProtRec) (ok : Bool) : ProtRec :=
  if ok then { r with probe := r.probe.clear }
  else { r with probe := r.probe.raise, probeReason := some .noProfile, probeChan := none }

/-- The tallies of a sweep that a report reaches (R170). -/
def SweepRec.tallied (x : SweepRec) (ok : Bool) : SweepRec :=
  { x with
    measured := if ok then x.measured + 1 else x.measured
    failed := if ok then x.failed else x.failed + 1
    outstanding := x.outstanding - 1 }

theorem reaches_iff {w : SenseWrite} : w.reaches u = true ↔ StillThere w u := by
  unfold SenseWrite.reaches StillThere
  rw [Bool.and_eq_true, present_iff, beq_iff_eq]

theorem StillThere.of_chain {w : SenseWrite} (h : StillThere w t) (hc : (t.tile w.slot).chain = (u.tile w.slot).chain) :
    StillThere w u := by
  unfold StillThere at h ⊢
  rwa [hc] at h

/-- The report reaches the slot that the write was handed for, where the write's tile is still there (R170). -/
theorem reportProbe_eq (w : SenseWrite) (ok : Bool) : reportProbe w ok u = if w.reaches u = true
    then u.putTile w.slot ((u.tile w.slot).setProt ((u.tile w.slot).prot.reported ok)) else u := by
  cases ok <;> rfl

theorem tile_reportProbe (w : SenseWrite) (ok : Bool) (i : Slot) : (reportProbe w ok u).tile i
    = if i = w.slot ∧ w.reaches u = true then (u.tile i).setProt ((u.tile i).prot.reported ok) else u.tile i := by
  rw [reportProbe_eq]
  by_cases hreach : w.reaches u = true
  · rw [if_pos hreach]
    by_cases hi : i = w.slot
    · rw [if_pos ⟨hi, hreach⟩, hi, State.tile_putTile_same]
    · rw [if_neg fun h => hi h.1, State.tile_putTile_other _ _ _ _ hi]
  · rw [if_neg hreach, if_neg fun h => hreach h.2]

theorem reportProbe_frame (w : SenseWrite) (ok : Bool) : reportProbe w ok u = u.setTiles (reportProbe w ok u).tiles := by
  rw [reportProbe_eq]
  split <;> rfl

theorem reportTally_own {w : SenseWrite} (ok : Bool) (hstate : u.sweep.state ≠ .none) (hid : u.sweep.id = w.sweepId) :
    reportTally w ok u = u.setSweep (u.sweep.tallied ok) :=
  if_pos (by simp [SweepRec.inProgress, hstate, hid])

theorem reportTally_other {w : SenseWrite} (ok : Bool) (h : u.sweep.state = .none ∨ u.sweep.id ≠ w.sweepId) :
    reportTally w ok u = u := by
  refine if_neg fun hown => ?_
  rw [Bool.and_eq_true, SweepRec.inProgress, bne_iff_ne, beq_iff_eq] at hown
  exact h.elim hown.1 fun hid => hid hown.2

/-- A report to a sweep of its own raises its tallies, and ends it where it was WAITING for this write alone (R170, R171). -/
theorem reportSense_own {w : SenseWrite} (ok : Bool) (hstate : u.sweep.state ≠ .none) (hid : u.sweep.id = w.sweepId) :
    reportSense w ok u = sweepDoneIfWaiting ((u.setTiles (reportProbe w ok u).tiles).setSweep (u.sweep.tallied ok)) := by
  rw [reportSense, reportProbe_frame]
  exact congrArg sweepDoneIfWaiting (reportTally_own (u := u.setTiles _) ok hstate hid)

/-- A report to its own sweep that goes on. -/
theorem reportSense_goesOn {w : SenseWrite} (ok : Bool) (hstate : u.sweep.state ≠ .none) (hid : u.sweep.id = w.sweepId)
    (h : u.sweep.state = .running ∨ 1 < u.sweep.outstanding) :
    reportSense w ok u = (u.setTiles (reportProbe w ok u).tiles).setSweep (u.sweep.tallied ok) := by
  rw [reportSense_own ok hstate hid]
  refine if_neg ?_
  rintro ⟨hwait, hnone⟩
  have hwait : u.sweep.state = .waiting := hwait
  have hnone : u.sweep.outstanding - 1 = 0 := hnone
  rcases h with h | h
  · rw [h] at hwait
    cases hwait
  · omega

/-- A report to its own sweep that was WAITING for this write alone: it completes DONE (R171). -/
theorem reportSense_ends {w : SenseWrite} (ok : Bool) (hid : u.sweep.id = w.sweepId) (hwait : u.sweep.state = .waiting)
    (hlast : u.sweep.outstanding = 1) : reportSense w ok u
      = endSweep .done none ((u.setTiles (reportProbe w ok u).tiles).setSweep (u.sweep.tallied ok)) := by
  rw [reportSense_own ok (by rw [hwait]; decide) hid]
  exact if_pos ⟨hwait, by show u.sweep.outstanding - 1 = 0; omega⟩

/-- A report to a sweep that is over, or to another's, moves no sweep (R170). -/
theorem reportSense_other {w : SenseWrite} (ok : Bool) (h : u.sweep.state = .none ∨ u.sweep.id ≠ w.sweepId)
    (hwait : u.sweep.state = .waiting → u.sweep.outstanding ≠ 0) :
    reportSense w ok u = u.setTiles (reportProbe w ok u).tiles := by
  have htally := reportTally_other (u := u.setTiles (reportProbe w ok u).tiles) ok h
  rw [reportSense, reportProbe_frame, htally]
  exact if_neg fun hdone => hwait hdone.1 hdone.2

theorem tile_reportSense (w : SenseWrite) (ok : Bool) (i : Slot) : (reportSense w ok u).tile i
    = if i = w.slot ∧ w.reaches u = true then (u.tile i).setProt ((u.tile i).prot.reported ok) else u.tile i := by
  have hdone : ∀ v : State, (sweepDoneIfWaiting v).tile i = v.tile i := by
    intro v
    unfold sweepDoneIfWaiting
    split
    · rw [endSweep_frame]
      rfl
    · rfl
  have htally : ∀ v : State, (reportTally w ok v).tile i = v.tile i := by
    intro v
    unfold reportTally
    split <;> rfl
  rw [reportSense, hdone, htally, tile_reportProbe]

theorem sameButProt_of_reportSense (w : SenseWrite) (ok : Bool) : SameButProt u (reportSense w ok u) := by
  intro i
  rw [tile_reportSense]
  split <;> rfl

theorem PendingKept.of_reportSense (w : SenseWrite) (ok : Bool) : PendingKept u (reportSense w ok u) := by
  have hend : ∀ v, PendingKept v (sweepDoneIfWaiting v) := by
    intro v
    unfold sweepDoneIfWaiting
    split
    · unfold endSweep
      split
      · exact .refl v
      · exact PendingKept.of_complete _ _ _ _ _ _
    · exact .refl v
  have htally : ∀ v, PendingKept v (reportTally w ok v) := by
    intro v
    unfold reportTally
    split <;> exact .refl v
  have hprobe : PendingKept u (reportProbe w ok u) := by
    rw [reportProbe_frame]
    exact .refl u
  exact (hprobe.trans (htally _)).trans (hend _)

@[simp] theorem reportSense_store (w : SenseWrite) (ok : Bool) : (reportSense w ok u).store = u.store := by
  rw [reportSense_frame]

/-! ## The queue -/

theorem senseFits_iff {st : Store} {w : SenseWrite} :
    st.senseFits w = true ↔ ∃ r, st.profile w.index = some r ∧ r.kind = .tile ∧ r.serial = some w.serial := by
  unfold Store.senseFits
  cases st.profile w.index <;> simp

theorem startQueue_profile (ws : List SenseWrite) (u : State) : (startQueue ws u).store.profile = u.store.profile := by
  funext k
  unfold Store.profile
  rw [(startQueue_store u ws).1]

/-- A sense write that fits begins, and the rest waits (R26). -/
theorem startQueue_of_fits {w : SenseWrite} (ws : List SenseWrite) (h : u.store.senseFits w = true) :
    startQueue (w :: ws) u = u.setStore { u.store with write := some ⟨.senseWrite w, none⟩, queue := ws } := if_pos h

/-- A sense write that does not fit is skipped and reported (R28). -/
theorem startQueue_of_skipped {w : SenseWrite} (ws : List SenseWrite) (h : ¬u.store.senseFits w = true) :
    startQueue (w :: ws) u = startQueue ws (reportSense w false u) := if_neg h

/-- PROBE is ACTIVE with reason NOPROFILE and no channel, as a skipped sense write leaves it (R28, R130). -/
def ProtRec.NoProfileShown (r : ProtRec) : Prop :=
  r.probe = ⟨true, true, true⟩ ∧ r.probeReason = some .noProfile ∧ r.probeChan = none

theorem reported_noProfileShown (r : ProtRec) : (r.reported false).NoProfileShown := ⟨rfl, rfl, rfl⟩

/-- The sense writes behind it do not undo what a skipped one has shown. -/
theorem startQueue_noProfileShown (ws : List SenseWrite) {i : Slot} (h : (u.tile i).prot.NoProfileShown) :
    ((startQueue ws u).tile i).prot.NoProfileShown := by
  induction ws generalizing u with
  | nil => exact h
  | cons w ws ih =>
    unfold startQueue
    split
    · exact h
    · refine ih ?_
      rw [tile_reportSense]
      split
      · exact reported_noProfileShown _
      · exact h

/-- The reports of the queue move no serial and no slot state. -/
theorem stillThere_of_startQueue {w : SenseWrite} {ws : List SenseWrite} (h : StillThere w (startQueue ws u)) : StillThere w u := by
  have hchain := ((RoundStep.of_startQueue u ws).tile w.slot).chain
  unfold StillThere at h ⊢
  rwa [hchain.state, hchain.serial] at h

/-! ## The report of a completion -/

theorem report_store (op : WriteOp) (issuer : Option Port) (before : State) : (op.report issuer before u).store = u.store := by
  unfold WriteOp.report
  split
  · exact reportSense_store _ _
  all_goals rfl

theorem report_sweep {op : WriteOp} (issuer : Option Port) (before : State) (h : op.request ≠ none) :
    (op.report issuer before u).sweep = u.sweep := by
  unfold WriteOp.report
  split
  · exact absurd rfl h
  all_goals rfl

/-! ## Profile writes of a request -/

theorem slotBoundTo_spec (s : State) (k : Nat) : (∀ j, slotBoundTo s k = some j → (s.tile j).chain.bound = k)
    ∧ (slotBoundTo s k = none → ∀ j, (s.tile j).chain.bound ≠ k) := by
  refine ⟨fun j h => by simpa using List.find?_some h, fun h j => ?_⟩
  simpa using List.find?_eq_none.mp h j (mem_slots j)

/-- The slots after a profile write whose report moves protection records alone. -/
theorem slots_of_profileWrite {op : WriteOp} {k : Nat} (hk : op.profileIndex = some k)
    (hp : t.store.profile = (op.apply s.store).profile) (ht : SameButProt (op.bound s) t) :
    BoundSlotsAreResolvedAgain k s t ∧ WaitingSlotsAreTried s t := by
  have hp' : t.store.profile = (op.bound s).store.profile := by rw [hp, bound_store]
  exact ⟨(boundSlotsAreResolvedAgain_bound op s hk).of_same hp' ht, (waitingSlotsAreTried_bound op s).of_same hp' ht⟩

theorem putCell_map (st : Store) (k : Nat) (c : ProfileCell) : (st.putCell k c).map = st.map :=
  (congrArg Store.map (putCell_frame st k c) :)

/-- The completion of a request that writes one index with no sense write queued: the areas, the request, and the slots (R29, R37,
R38, R45, R46). -/
theorem profileRequest_completes {op : WriteOp} {p : Port} {n : ReqName} {d : ResultData} {k : Nat} {c : ProfileCell}
    (hw : s.store.write = some ⟨op, some p⟩) (hq : s.store.queue = []) (hk : op.profileIndex = some k)
    (happly : op.apply s.store = s.store.putCell k c) (hinverse : op.inverse s.store s.inverse = s.inverse)
    (hr : op.report (some p) s (op.bound s) = finish p n d (op.bound s)) :
    ∃ t, exec .storeWriteComplete s = .next t ∧ t.store.profile = (s.store.putCell k c).profile
      ∧ t.store.map = s.store.map ∧ t.inverse = s.inverse ∧ t.store.write = none ∧ (∀ i, t.tile i = (op.bound s).tile i)
      ∧ (t.port p).result = some ⟨n, .done, none, d⟩ ∧ (t.port p).busy = none ∧ (∀ q, (t.port q).pending.store = true)
      ∧ BoundSlotsAreResolvedAgain k s t ∧ WaitingSlotsAreTried s t ∧ ∀ i, (t.tile i).prot = (s.tile i).prot := by
  obtain ⟨t, hexec, hstore, hinv, htile, hresult, hbusy, hpending⟩ := requestWrite_completes hw hq hr
  have hprofile : t.store.profile = (op.apply s.store).profile := by rw [hstore]; rfl
  obtain ⟨hagain, htried⟩ := slots_of_profileWrite hk hprofile (.of_tiles htile)
  exact ⟨t, hexec, by rw [hprofile, happly], by rw [hstore, happly]; exact putCell_map _ _ _, hinv.trans hinverse, by rw [hstore],
    htile, hresult, hbusy, hpending, hagain, htried, fun i => by rw [htile, bound_prot]⟩

/-- An ACTIVE slot whose record is written and resolves takes the new working profile and nothing else (R47). -/
theorem active_of_resolvedAgain {k : Nat} (h1 : 1 ≤ k) {i : Slot} {r : Profile} {w : Working}
    (h : BoundSlotsAreResolvedAgain k s t) (hprot : (t.tile i).prot = (s.tile i).prot) (hactive : (s.tile i).chain.state = .active)
    (hbound : (s.tile i).chain.bound = k) (hr : t.store.profile k = some r) (hkind : r.kind = .tile)
    (hser : r.serial = (s.tile i).chain.serial) (hw : resolve t.store.profile k r = .ok w) :
    t.tile i = { s.tile i with held := .full w } := by
  subst hbound
  have hdep : (s.tile i).dependsOn (s.tile i).chain.bound = true := by
    simp only [Tile.dependsOn, beq_self_eq_true, Bool.true_or, Bool.and_true, bne_iff_ne]
    omega
  have hwaits : (s.tile i).chain.waits = false := by simp [SlotRec.waits, hactive]
  have htile := (h.2 i hwaits (by rw [hactive]; decide) hdep).2.1 r w hr hkind hser hw
  rw [htile, hprot]

/-! ## A sense write -/

theorem apply_senseWrite {st : Store} {w : SenseWrite} {r : Profile} (hr : st.profile w.index = some r) :
    (WriteOp.senseWrite w).apply st = st.putCell w.index (.good { r with sense := some w.sense }) := by
  simp only [WriteOp.apply, hr]

/-- The completion of a sense write with none queued behind it: its report from the state that binding has left, an IDLE store, and
STORE told to every port (R28, R29). -/
theorem senseWrite_completes {w : SenseWrite} (hw : s.store.write = some ⟨.senseWrite w, none⟩) (hq : s.store.queue = []) :
    ∃ t, exec .storeWriteComplete s = .next t
      ∧ t.store = { (WriteOp.senseWrite w).apply s.store with write := none, queue := [] } ∧ t.inverse = s.inverse
      ∧ (∀ i, t.tile i = (reportSense w true ((WriteOp.senseWrite w).bound s)).tile i)
      ∧ t.sweep = (reportSense w true ((WriteOp.senseWrite w).bound s)).sweep
      ∧ t.token = (reportSense w true ((WriteOp.senseWrite w).bound s)).token
      ∧ (∀ q, (t.port q).result = ((reportSense w true ((WriteOp.senseWrite w).bound s)).port q).result
          ∧ (t.port q).busy = ((reportSense w true ((WriteOp.senseWrite w).bound s)).port q).busy)
      ∧ ∀ q, (t.port q).pending.store = true := by
  have hpending := bound_pending (.senseWrite w) s
  have hstore := bound_store (.senseWrite w) s
  have hinverse : ((WriteOp.senseWrite w).bound s).inverse = s.inverse := by rw [bound_inverse]; rfl
  have hqueue : ((WriteOp.senseWrite w).bound s).store.queue = [] := by rw [hstore, apply_frame, hq]
  refine ⟨_, exec_storeWriteComplete hw, ?_⟩
  rw [completeWrite_eq, ← hstore, ← hinverse]
  dsimp only
  generalize (WriteOp.senseWrite w).bound s = u at hpending hqueue ⊢
  have hreport : (WriteOp.senseWrite w).report none s u = reportSense w true u := rfl
  have hkept : PendingKept u (reportSense w true u) := .of_reportSense w true
  have hinverse' : (reportSense w true u).inverse = u.inverse := by rw [reportSense_frame]
  rw [hreport, reportSense_store, hqueue, ← hinverse', ← reportSense_store (u := u) w true]
  generalize reportSense w true u = v at hkept ⊢
  exact ⟨rfl, rfl, fun i => rfl, rfl, rfl, fun q => ⟨result_notify _ s q, busy_notify _ s q⟩,
    fun q => (hkept.trans (.of_notify _ s)).store (hpending q)⟩

/-- The protection records after a sense write: PROBE is cleared at the slot it was handed for, where the write's tile is still
there (R170). -/
theorem prot_of_senseWrite {w : SenseWrite}
    (ht : ∀ i, t.tile i = (reportSense w true ((WriteOp.senseWrite w).bound s)).tile i) :
    (StillThere w t → (t.tile w.slot).prot = { (s.tile w.slot).prot with
        probe := { (s.tile w.slot).prot.probe with cond := false, active := false } })
      ∧ (¬StillThere w t → (t.tile w.slot).prot = (s.tile w.slot).prot)
      ∧ ∀ i, i ≠ w.slot → (t.tile i).prot = (s.tile i).prot := by
  have hprot := bound_prot (.senseWrite w) s
  generalize (WriteOp.senseWrite w).bound s = u at ht hprot
  have hchain : (t.tile w.slot).chain = (u.tile w.slot).chain := by
    rw [ht]
    exact (sameButProt_of_reportSense w true).chain _
  refine ⟨fun hthere => ?_, fun hgone => ?_, fun i hi => ?_⟩
  · rw [ht, tile_reportSense, if_pos ⟨rfl, reaches_iff.mpr (hthere.of_chain hchain)⟩, Tile.setProt_prot, hprot]
    rfl
  · have hnot : ¬w.reaches u = true := fun h => hgone ((reaches_iff.mp h).of_chain hchain.symm)
    rw [ht, tile_reportSense, if_neg fun h => hnot h.2, hprot]
  · rw [ht, tile_reportSense, if_neg fun h => hi h.1, hprot]

/-- The sweep that ends with the last write it waited for (R171). -/
theorem reportSense_ends_spec {w : SenseWrite} {p : Port} (hid : u.sweep.id = w.sweepId) (hwait : u.sweep.state = .waiting)
    (hlast : u.sweep.outstanding = 1) (hp : u.sweep.issuer = some p) :
    (reportSense w true u).token = .free ∧ (reportSense w true u).sweep.state = .none
      ∧ ((reportSense w true u).port p).busy = none
      ∧ ((reportSense w true u).port p).result = some ⟨.sweep, .done, none, .sweep (u.sweep.measured + 1) u.sweep.failed
          u.sweep.skipped u.sweep.passed u.sweep.lastReached 0⟩ := by
  obtain ⟨⟨hport, _⟩, hframe⟩ :=
    endSweep_spec ((u.setTiles (reportProbe w true u).tiles).setSweep (u.sweep.tallied true)) .done none p hp
  rw [reportSense_ends true hid hwait hlast]
  refine ⟨by rw [hframe], by rw [hframe]; rfl, by rw [hport], ?_⟩
  rw [hport]
  simp [SweepRec.result, SweepRec.tallied, hlast]

/-! ## A sense write that does not fit -/

/-- What the queue leaves where its first sense write is skipped (R26, R28, R170). -/
theorem startQueue_skips {v : SenseWrite} {rest : List SenseWrite} (h : ¬u.store.senseFits v = true) :
    (rest = [] → (startQueue (v :: rest) u).store.write = none ∧ (startQueue (v :: rest) u).store.queue = [])
      ∧ (StillThere v (startQueue (v :: rest) u) → ((startQueue (v :: rest) u).tile v.slot).prot.NoProfileShown)
      ∧ (rest = [] → u.sweep.state = .running → u.sweep.id = v.sweepId → (startQueue (v :: rest) u).sweep
          = { u.sweep with failed := u.sweep.failed + 1, outstanding := u.sweep.outstanding - 1 }) := by
  refine ⟨?_, fun hthere => ?_, ?_⟩
  · rintro rfl
    rw [startQueue_of_skipped _ h]
    exact ⟨rfl, rfl⟩
  · have hreach : v.reaches u = true := reaches_iff.mpr (stillThere_of_startQueue hthere)
    rw [startQueue_of_skipped _ h]
    refine startQueue_noProfileShown _ ?_
    rw [tile_reportSense, if_pos ⟨rfl, hreach⟩]
    exact reported_noProfileShown _
  · rintro rfl hrun hid
    rw [startQueue_of_skipped _ h]
    show (reportSense v false u).sweep = _
    rw [reportSense_goesOn false (by rw [hrun]; decide) hid (.inl hrun)]
    rfl

end Sys2Proof.Machine

open Sys2Proof Sys2Proof.Machine

/-- Settles O34: the two requests, the sense write with none behind it, and the sense write that stands behind another write. -/
theorem profileWriteCompletes : Obligations.ProfileWriteCompletes := by
  refine ⟨fun p k s hq h1 h2 => ⟨fun r hw => ?_, fun hw => ?_⟩, fun w r s hq hw hr hwait => ?_, fun x v rest s hw hq => ?_⟩
  · obtain ⟨t, hexec, hprofile, hmap, hinverse, hidle, htile, hresult, hbusy, hpending, hagain, htried, hprot⟩ :=
      profileRequest_completes (n := .putProfile) (d := .putProfile k (slotBoundTo ((WriteOp.putProfile k r).bound s) k))
        (c := .good r) hw hq rfl rfl rfl rfl
    obtain ⟨hsome, hnone⟩ := slotBoundTo_spec ((WriteOp.putProfile k r).bound s) k
    have hput : t.store.profile k = some r := by rw [hprofile, profile_putCell_good _ _ ⟨h1, h2⟩]
    exact ⟨t, hexec, hput, fun j hj => by rw [hprofile, profile_putCell_other _ _ _ _ hj], hmap, hinverse, hidle,
      ⟨_, hresult, fun j hj => by rw [htile, hsome j hj], fun hj j => by rw [htile]; exact hnone hj j⟩, hbusy, hpending, hagain,
      htried, hprot,
      fun i w hactive hbound hkind hser hres => active_of_resolvedAgain h1 hagain (hprot i) hactive hbound hput hkind hser hres⟩
  · obtain ⟨t, hexec, hprofile, hmap, hinverse, hidle, _, hresult, hbusy, hpending, hagain, htried, hprot⟩ :=
      profileRequest_completes (n := .dropProfile) (d := .dropProfile k (slotBoundTo s k)) (c := .empty) hw hq rfl rfl rfl rfl
    obtain ⟨hsome, hnone⟩ := slotBoundTo_spec s k
    exact ⟨t, hexec, by rw [hprofile, profile_putCell_empty _ _ ⟨h1, h2⟩],
      fun j hj => by rw [hprofile, profile_putCell_other _ _ _ _ hj], hmap, hinverse, hidle, ⟨_, hresult, hsome, hnone⟩, hbusy,
      hpending, hagain, htried, hprot⟩
  · obtain ⟨t, hexec, hstore, hinverse, htile, hsweep, htoken, hports, hpending⟩ := senseWrite_completes hw hq
    have happly := apply_senseWrite hr
    have hprofile : t.store.profile = (s.store.putCell w.index (.good { r with sense := some w.sense })).profile := by
      rw [hstore, happly]
      rfl
    have hsame : SameButProt ((WriteOp.senseWrite w).bound s) t := fun i => by
      rw [htile]
      exact sameButProt_of_reportSense w true i
    obtain ⟨hagain, htried⟩ := slots_of_profileWrite (op := .senseWrite w) rfl (by rw [hprofile, happly]) hsame
    obtain ⟨hthere, hgone, hother⟩ := prot_of_senseWrite htile
    have hsweep' := bound_sweep (.senseWrite w) s
    have htoken' := bound_token (.senseWrite w) s
    refine ⟨t, hexec, by rw [hprofile, profile_putCell_good _ _ (range_of_profile hr)],
      fun j hj => by rw [hprofile, profile_putCell_other _ _ _ _ hj],
      by rw [hstore, happly]; exact putCell_map _ _ _, hinverse, by rw [hstore], hpending, hagain, htried,
      hthere, hgone, hother, ?_⟩
    generalize (WriteOp.senseWrite w).bound s = u at hsweep htoken hports hsweep' htoken'
    rw [← hsweep', ← htoken', hsweep, htoken]
    rw [← hsweep'] at hwait
    refine ⟨fun hidle => ?_, fun hstate hid => ⟨fun hon => ?_, fun p hwaiting hlast hp => ?_⟩⟩
    · rw [reportSense_other true hidle hwait]
      exact ⟨rfl, rfl⟩
    · rw [reportSense_goesOn true hstate hid hon]
      exact ⟨rfl, rfl⟩
    · rw [(hports p).1, (hports p).2]
      exact reportSense_ends_spec hid hwaiting hlast hp
  · have hstore : (x.op.report x.issuer s (x.op.bound s)).store = x.op.apply s.store := by rw [report_store, bound_store]
    have hqueue : (x.op.report x.issuer s (x.op.bound s)).store.queue = v :: rest := by rw [hstore, apply_frame, hq]
    have hsweep : x.op.request ≠ none → (x.op.report x.issuer s (x.op.bound s)).sweep = s.sweep := fun h => by
      rw [report_sweep _ _ h, bound_sweep]
    refine ⟨_, exec_storeWriteComplete hw, ?_⟩
    rw [completeWrite_eq, hqueue]
    generalize x.op.report x.issuer s (x.op.bound s) = u at hsweep ⊢
    have hprofile : (notify s (startQueue (v :: rest) u)).store.profile = u.store.profile := startQueue_profile _ u
    rw [hprofile]
    refine ⟨fun r hr hkind hser => ?_, fun hno => ?_⟩
    · rw [startQueue_of_fits rest (senseFits_iff.mpr ⟨r, hr, hkind, hser⟩)]
      exact ⟨rfl, rfl⟩
    · have hfits : ¬u.store.senseFits v = true := fun h => by
        obtain ⟨r, hr, hkind, hser⟩ := senseFits_iff.mp h
        exact hno r hr hkind hser
      obtain ⟨hidle, hshown, htally⟩ := startQueue_skips (rest := rest) hfits
      refine ⟨hidle, hshown, fun hrest hreq hrun hid => ?_⟩
      rw [← hsweep hreq] at hrun hid ⊢
      exact htally hrest hrun hid

end

section
/-! The work on the map: RESETn's level and the PUT-MAP in flight, beside the standing records all that the invariants of the map (R51,
R54) turn on. Every operation but a PUT-MAP, a store-write completion and a reset leaves them. -/

namespace Sys2Proof.Machine

/-- The position and the new content of the PUT-MAP in flight, if one is (R26). -/
def State.placing (s : State) : Option (Pos × Option Slot) :=
  match s.store.write with
  | some ⟨.putMap x c, _⟩ => some (x, c)
  | _ => none

/-- RESETn's level and the PUT-MAP in flight. -/
def State.mapWork (s : State) : Bool × Option (Pos × Option Slot) := (s.inReset, s.placing)

variable (s : State)

/-! ## The PUT-MAP in flight -/

theorem placing_iff (x : Pos) (c : Option Slot) :
    s.placing = some (x, c) ↔ ∃ w, s.store.write = some w ∧ w.op = .putMap x c := by
  unfold State.placing
  split
  · rename_i y d issuer hw
    simp [hw]
  · rename_i hother
    refine ⟨nofun, ?_⟩
    rintro ⟨⟨op, issuer⟩, hw, rfl⟩
    exact absurd hw (hother x c issuer)

theorem placing_of_idle (h : s.store.write = none) : s.placing = none := by
  unfold State.placing
  rw [h]

theorem placing_of_senseWrite {w : SenseWrite} {issuer : Option Port} (h : s.store.write = some ⟨.senseWrite w, issuer⟩) :
    s.placing = none := by
  unfold State.placing
  rw [h]

theorem idle_of_not_writing (h : ¬s.store.writing = true) : s.store.write = none := by
  simpa [Store.writing] using h

/-! ## Updates of other records -/

@[simp] theorem mapWork_setToken (x : Token) : (s.setToken x).mapWork = s.mapWork := rfl
@[simp] theorem mapWork_setAuth (x : Authority) : (s.setAuth x).mapWork = s.mapWork := rfl
@[simp] theorem mapWork_setChain (x : ChainCtl) : (s.setChain x).mapWork = s.mapWork := rfl
@[simp] theorem mapWork_setActivity (a : Activity) : (s.setActivity a).mapWork = s.mapWork := rfl
@[simp] theorem mapWork_setTiles (x : Table Tile 64) : (s.setTiles x).mapWork = s.mapWork := rfl
@[simp] theorem mapWork_putTile (i : Slot) (x : Tile) : (s.putTile i x).mapWork = s.mapWork := rfl
@[simp] theorem mapWork_setSweep (x : SweepRec) : (s.setSweep x).mapWork = s.mapWork := rfl
@[simp] theorem mapWork_noticeAll (n : Notices) : (s.noticeAll n).mapWork = s.mapWork := rfl
@[simp] theorem mapWork_notify (before : State) : (notify before s).mapWork = s.mapWork := rfl
@[simp] theorem mapWork_event (f : State → State) : (event f s).mapWork = (f s).mapWork := rfl
@[simp] theorem mapWork_complete (p : Port) (n : ReqName) (v : Verdict) (why : Option Reason) (d : ResultData) :
    (complete p n v why d s).mapWork = s.mapWork := rfl
@[simp] theorem mapWork_finish (p : Port) (n : ReqName) (d : ResultData) : (finish p n d s).mapWork = s.mapWork := rfl
@[simp] theorem mapWork_refuse (p : Port) (n : ReqName) (why : Reason) : (refuse p n why s).mapWork = s.mapWork := rfl
@[simp] theorem mapWork_hold (p : Port) (n : ReqName) : (hold p n s).mapWork = s.mapWork := rfl

@[simp] theorem mapWork_touch (p : Port) : (touch p s).mapWork = s.mapWork := by
  rw [touch_eq, mapWork_setAuth]

theorem mapWork_ite {c : Prop} [Decidable c] {t u : State} (ht : t.mapWork = s.mapWork) (hu : u.mapWork = s.mapWork) :
    (if c then t else u).mapWork = s.mapWork := by
  split
  · exact ht
  · exact hu

theorem mapWork_foldl {α : Type} {f : State → α → State} (h : ∀ s x, (f s x).mapWork = s.mapWork) (xs : List α) :
    (xs.foldl f s).mapWork = s.mapWork := by
  induction xs generalizing s with
  | nil => rfl
  | cons x xs ih => rw [List.foldl_cons, ih, h]

/-! ## The store -/

/-- A write that begins in an IDLE store and is no PUT-MAP. -/
theorem mapWork_beginWrite {op : WriteOp} (issuer : Option Port) (hw : ¬s.store.writing = true)
    (hop : ∀ x c, op ≠ .putMap x c) : (beginWrite op issuer s).mapWork = s.mapWork := by
  have hbegun : (beginWrite op issuer s).placing = none := by
    cases op with
    | putMap x c => exact absurd rfl (hop x c)
    | _ => rfl
  rw [State.mapWork, hbegun, State.mapWork, placing_of_idle s (idle_of_not_writing s hw)]
  rfl

/-- Once the queue has reached the store no PUT-MAP is in flight (R26). -/
theorem mapWork_startQueue (ws : List SenseWrite) : (startQueue ws s).mapWork = (s.inReset, none) := by
  obtain ⟨_, _, _, _, _, hwrite⟩ := startQueue_store s ws
  have hplacing : (startQueue ws s).placing = none := by
    rcases hwrite with h | ⟨w, _, _, h⟩
    · exact placing_of_idle _ h
    · exact placing_of_senseWrite _ h
  rw [State.mapWork, hplacing, (RoundStep.of_startQueue s ws).inReset]

@[simp] theorem mapWork_handSenseWrite (w : SenseWrite) : (handSenseWrite w s).mapWork = s.mapWork := by
  unfold handSenseWrite
  split
  · rfl
  · rename_i h
    rw [Bool.or_eq_true, not_or] at h
    rw [mapWork_startQueue, State.mapWork, placing_of_idle s (idle_of_not_writing s h.1)]

/-- A store-write completion leaves RESETn's level, and no PUT-MAP in flight (R26, R29). -/
theorem mapWork_completeWrite (w : StoreWrite) : (completeWrite w s).mapWork = (s.inReset, none) := by
  have hbound : (w.op.bound s).inReset = s.inReset := by rw [bound_frame]
  have hreport : ∀ u, (w.op.report w.issuer s u).inReset = u.inReset := by
    intro u
    unfold WriteOp.report
    split
    · exact (RoundStep.of_reportSense u _ _).inReset
    all_goals rfl
  rw [completeWrite_eq, mapWork_startQueue, hreport, hbound]

/-! ## Rounds and sweeps -/

@[simp] theorem mapWork_endSweep (v : Verdict) (why : Option Reason) : (endSweep v why s).mapWork = s.mapWork := by
  rw [endSweep_frame]
  rfl

@[simp] theorem mapWork_recompute : (recompute s).mapWork = s.mapWork := by
  rw [recompute_frame]
  rfl

@[simp] theorem mapWork_pushFrom (k : Nat) : (pushFrom k s).mapWork = s.mapWork := by
  rcases pushFrom_spec s k with ⟨h, _⟩ | ⟨i, _, _, h⟩ <;> rw [h, mapWork_setActivity]

@[simp] theorem mapWork_completePollPhase : (completePollPhase s).mapWork = s.mapWork := by
  rw [completePollPhase, mapWork_pushFrom, mapWork_recompute]

@[simp] theorem mapWork_failTile (i : Slot) (why : ProbeReason) (c : Option Chan) :
    (failTile i why c s).mapWork = s.mapWork := rfl

@[simp] theorem mapWork_finishRange : (finishRange s).mapWork = s.mapWork := by
  unfold finishRange
  split <;> simp

@[simp] theorem mapWork_probeFromCursor : (probeFromCursor s).mapWork = s.mapWork := by
  unfold probeFromCursor
  split
  · rfl
  · dsimp only
    split <;> simp

@[simp] theorem mapWork_probeStep : (probeStep s).mapWork = s.mapWork := by
  unfold probeStep
  split
  · simp
  · dsimp only
    split
    · split
      · simp
      · split <;> simp
    · split <;> simp

@[simp] theorem mapWork_probePhase : (probePhase s).mapWork = s.mapWork := by
  unfold probePhase
  split
  · dsimp only
    split <;> simp
  · simp

@[simp] theorem mapWork_pollFrom (k : Nat) : (pollFrom k s).mapWork = s.mapWork := by
  have hadopt : (adoptPhase s).mapWork = s.mapWork := by
    unfold adoptPhase
    split <;> simp
  rcases pollFrom_spec s k with ⟨h, _⟩ | ⟨i, _, _, h⟩
  · rw [h, hadopt]
  · rw [h, mapWork_setActivity]

@[simp] theorem mapWork_startRound : (startRound s).mapWork = s.mapWork := by
  rw [startRound, mapWork_pollFrom, mapWork_setChain]

/-! ## The end of a probe step -/

@[simp] theorem mapWork_handOver (i : Slot) : (handOver i s).mapWork = s.mapWork := by
  unfold handOver
  dsimp only
  split
  · rfl
  · split
    · simp
    · split
      · simp
      · split <;> simp

@[simp] theorem mapWork_settleProbe (i : Slot) (c : Chan) (e : ProbeEnd) : (settleProbe i c e s).mapWork = s.mapWork := by
  unfold settleProbe
  split
  · rfl
  · split
    · simp
    · split
      · split <;> simp
      · simp
      · simp
      · rfl

@[simp] theorem mapWork_endProbeStep (i : Slot) (c : Chan) (e : ProbeEnd) : (endProbeStep i c e s).mapWork = s.mapWork := by
  rw [endProbeStep, mapWork_completePollPhase, mapWork_settleProbe]

@[simp] theorem mapWork_sendPatchOff (i : Slot) (c : Chan) (r : Nat) (e : ProbeEnd) :
    (sendPatchOff i c r e s).mapWork = s.mapWork := rfl

@[simp] theorem mapWork_senseReplied (i : Slot) (c : Chan) (r count : Nat) :
    (senseReplied i c r count s).mapWork = s.mapWork := by
  unfold senseReplied
  split
  · rfl
  · split <;> rfl

/-! ## Replies, misses and the enumeration -/

@[simp] theorem mapWork_missAt (i : Slot) : (missAt i s).mapWork = s.mapWork := rfl
@[simp] theorem mapWork_answeredAt (i : Slot) : (answeredAt i s).mapWork = s.mapWork := rfl
@[simp] theorem mapWork_pushReplied (i : Slot) (echo : RGB Nat) : (pushReplied i echo s).mapWork = s.mapWork := rfl
@[simp] theorem mapWork_expireRetry (i : Slot) (cls : TimedClass) : (expireRetry i cls s).mapWork = s.mapWork := rfl

@[simp] theorem mapWork_pollReplied (i : Slot) (temp : Option Int) (fault : Bool) (hours load : Nat) (echo : RGB Nat) :
    (pollReplied i temp fault hours load echo s).mapWork = s.mapWork := by
  have hsample : ∀ (x : Option Selection) (u : State), (arrivalSample i x u).mapWork = u.mapWork := by
    intro x u
    unfold arrivalSample
    dsimp only
    split <;> rfl
  unfold pollReplied arrival settleSlot
  dsimp only
  rw [mapWork_putTile, mapWork_putTile, hsample]
  rfl

@[simp] theorem mapWork_adoptReplied (i : Slot) (serial : Serial) : (adoptReplied i serial s).mapWork = s.mapWork := by
  unfold adoptReplied joinByAdopt
  dsimp only
  split
  · rfl
  · rw [tryBind_frame, mapWork_putTile, mapWork_putTile]

@[simp] theorem mapWork_bindEnumerated (n : Nat) : (bindEnumerated n s).mapWork = s.mapWork := by
  rw [bindEnumerated, (foldl_tryBindIf_frame s _ _).1]
  rfl

@[simp] theorem mapWork_endRelearn (v : Verdict) (why : Option Reason) (d : ResultData) :
    (endRelearn v why d s).mapWork = s.mapWork := by
  rw [endRelearn_frame]
  rfl

@[simp] theorem mapWork_leaveEnumeration : (leaveEnumeration s).mapWork = s.mapWork := rfl
@[simp] theorem mapWork_sendEnum0 : (sendEnum0 s).mapWork = s.mapWork := rfl

@[simp] theorem mapWork_abortEnumeration (n : Nat) : (abortEnumeration n s).mapWork = s.mapWork := by
  rw [abortEnumeration, mapWork_endRelearn, mapWork_leaveEnumeration, mapWork_bindEnumerated]

@[simp] theorem mapWork_completeEnumeration (n : Nat) (long : Bool) :
    (completeEnumeration n long s).mapWork = s.mapWork := by
  unfold completeEnumeration
  simp

@[simp] theorem mapWork_enumReplied (n : Nat) (serial : Serial) : (enumReplied n serial s).mapWork = s.mapWork := by
  unfold enumReplied
  split
  · simp
  · dsimp only
    split <;> simp

@[simp] theorem mapWork_enumUnanswered (n : Nat) : (enumUnanswered n s).mapWork = s.mapWork := by
  unfold enumUnanswered
  split
  · simp
  · split <;> simp [vacateFrom]

/-! ## Authority, jobs and time -/

@[simp] theorem mapWork_passAuthority (why : LastChange) : (passAuthority why s).mapWork = s.mapWork := by
  rw [passAuthority_frame]
  rfl

@[simp] theorem mapWork_expireTimer (q : Prog) : (expireTimer q s).mapWork = s.mapWork := by
  unfold expireTimer
  dsimp only
  split <;> simp

@[simp] theorem mapWork_cutSweep (v : Verdict) (why : Option Reason) : (cutSweep v why s).mapWork = s.mapWork := by
  unfold cutSweep
  split
  · dsimp only
    rw [mapWork_endSweep]
    split <;> rfl
  · simp

@[simp] theorem mapWork_preempt : (preempt s).mapWork = s.mapWork := by
  unfold preempt
  split <;> simp

@[simp] theorem mapWork_tick : (tick s).mapWork = s.mapWork := by
  have hlive : ∀ q u, (expireDue q u).mapWork = u.mapWork := fun q u => mapWork_ite u (by simp) rfl
  have hretry : ∀ u x, (retryDue u x).mapWork = u.mapWork := fun u x => mapWork_ite u (by simp) rfl
  have hchain : ∀ u, (chainDue u).mapWork = u.mapWork := fun u =>
    mapWork_ite u (by simp) (mapWork_ite u (by simp) rfl)
  unfold tick
  split
  · rfl
  · rw [hchain, mapWork_foldl _ hretry, hlive, hlive]
    rfl

/-! ## The requests but PUT-MAP -/

theorem mapWork_claim (p : Port) (wait : Bool) : (doClaim p wait s).mapWork = s.mapWork := by
  unfold doClaim claimBy
  split
  · split
    · rfl
    · exact mapWork_ite s rfl (mapWork_ite s rfl rfl)
  · rfl

theorem mapWork_setShow (p : Port) (x : ShowBlock) : (doSetShow p x s).mapWork = s.mapWork := by
  have hm : ∀ old u, (showM old u).mapWork = u.mapWork := fun old u =>
    mapWork_ite u rfl (mapWork_ite u (by rw [mapWork_cutSweep]; rfl) rfl)
  have hw : ∀ old u, (showWant old u).mapWork = u.mapWork := fun old u => mapWork_ite u rfl rfl
  have ht : ∀ old u, (showTimeout old u).mapWork = u.mapWork := fun old u => mapWork_ite u rfl rfl
  rw [doSetShow, mapWork_finish, ht, hw, hm]
  rfl

theorem mapWork_freeze (p : Port) (k : Key) : (doFreeze p k s).mapWork = s.mapWork := by
  unfold doFreeze
  split
  · rfl
  · exact mapWork_ite s rfl rfl

theorem mapWork_thaw (p : Port) (k : Key) : (doThaw p k s).mapWork = s.mapWork := by
  unfold doThaw
  split
  · rfl
  · exact mapWork_ite s rfl rfl

theorem mapWork_setBudgetRequest (p : Port) (x : BudgetBlock) : (doSetBudget p x s).mapWork = s.mapWork := by
  rw [doSetBudget, mapWork_finish]
  exact mapWork_ite s rfl rfl

theorem mapWork_putProfile (p : Port) (x : PutBlock) : (doPutProfile p x s).mapWork = s.mapWork := by
  by_cases hw : s.store.writing = true
  · rw [doPutProfile, if_pos hw, mapWork_refuse]
  · have hput : ∀ k, (putAt p k x s).mapWork = s.mapWork := by
      intro k
      unfold putAt
      split
      · rfl
      · rw [mapWork_hold, mapWork_beginWrite s _ hw (by simp)]
    unfold doPutProfile
    rw [if_neg hw]
    refine mapWork_ite s ?_ (hput _)
    split
    · rfl
    · exact hput _

theorem mapWork_dropProfile (p : Port) (k : Nat) : (doDropProfile p k s).mapWork = s.mapWork := by
  by_cases hw : s.store.writing = true
  · rw [doDropProfile, if_pos hw, mapWork_refuse]
  · unfold doDropProfile
    rw [if_neg hw]
    exact mapWork_ite s rfl (mapWork_ite s rfl (by rw [mapWork_hold, mapWork_beginWrite s _ hw (by simp)]))

theorem mapWork_clearMap (p : Port) (u : Unit) : (doClearMap p u s).mapWork = s.mapWork := by
  by_cases hw : s.store.writing = true
  · rw [doClearMap, if_pos hw, mapWork_refuse]
  · rw [doClearMap, if_neg hw, mapWork_hold, mapWork_beginWrite s _ hw (by simp)]

theorem mapWork_setTrack (p : Port) (x : TrackBlock) : (doSetTrack p x s).mapWork = s.mapWork := mapWork_ite s rfl rfl

theorem mapWork_setTemp (p : Port) (x : TempBlock) : (doSetTemp p x s).mapWork = s.mapWork := by
  rw [doSetTemp, mapWork_finish]
  exact mapWork_ite s rfl rfl

theorem mapWork_clearFaults (p : Port) (target : Option Slot) : (doClearFaults p target s).mapWork = s.mapWork :=
  mapWork_ite s rfl rfl

theorem mapWork_sweepRequest (p : Port) (x : SweepParams) : (doSweep p x s).mapWork = s.mapWork :=
  mapWork_ite s rfl (by simp)

theorem mapWork_relearn (p : Port) (u : Unit) : (doRelearn p u s).mapWork = s.mapWork := by
  unfold doRelearn
  exact mapWork_ite s (by simp) (by simp)

theorem mapWork_restartChain (p : Port) (u : Unit) : (doRestartChain p u s).mapWork = s.mapWork := by
  rw [doRestartChain, mapWork_finish, restartEffects_eq]
  rfl

theorem mapWork_abort (p : Port) : (doAbort p s).mapWork = s.mapWork := by
  unfold doAbort
  split
  · rfl
  · refine mapWork_ite s rfl ?_
    unfold abortRequest
    split
    · rfl
    · exact mapWork_ite s rfl (by simp)
    · exact mapWork_ite s rfl (by simp)
    · rfl

theorem mapWork_unknownPost (p : Port) (code : Byte) : (unknownPost p code s).mapWork = s.mapWork := mapWork_ite s rfl rfl

/-! ## Every command but a PUT-MAP, a store-write completion and a reset -/

theorem mapWork_transaction {p : Port} {f : State → State} (hf : ∀ u, (f u).mapWork = u.mapWork) :
    (transaction p f s).mapWork = s.mapWork := mapWork_ite s rfl (by rw [hf, mapWork_touch])

/-- What updates of the ports and the timers keep, and a request's own effect, its whole POST keeps. -/
theorem posted_keeps {P : State → Prop} {α : Type} {n : ReqName} {p : Port} {x : Option α} {f : α → State → State}
    (hports : ∀ u y, P u → P (u.setPorts y)) (hauth : ∀ u y, P u → P (u.setAuth y)) (hf : ∀ v u, P u → P (f v u))
    (hs : P s) : P (posted n p x f s) := by
  have htouch : P (touch p s) := by
    rw [touch_eq]
    exact hauth s _ hs
  refine hports _ _ (?_ : P (post n p (withBlock n p x f) s))
  rcases post_cases s n p x f with ⟨_, h⟩ | ⟨_, _, h⟩ | ⟨_, why, _, h⟩ | ⟨_, _, h⟩ | ⟨_, v, _, h⟩ <;> rw [h]
  · exact hs
  · exact hports _ _ htouch
  · exact hports _ _ htouch
  · exact hports _ _ htouch
  · exact hf v _ htouch

theorem mapWork_posted {α : Type} {n : ReqName} {p : Port} {x : Option α} {f : α → State → State}
    (hf : ∀ v u, (f v u).mapWork = u.mapWork) : (posted n p x f s).mapWork = s.mapWork :=
  posted_keeps s (P := fun u => u.mapWork = s.mapWork) (fun _ _ h => h) (fun _ _ h => h) (fun v u h => (hf v u).trans h) rfl

theorem mapWork_of_transactionCommand (c : Instr) (hc : transactionOn c ≠ none) (hmap : ∀ p b, c ≠ .putMap p b) :
    ∃ t, exec c s = .next t ∧ t.mapWork = s.mapWork := by
  cases c with
  | status p => exact ⟨_, rfl, mapWork_transaction s fun u => rfl⟩
  | read p kind i0 i1 => exact ⟨_, rfl, mapWork_transaction s fun u => rfl⟩
  | result p => exact ⟨_, rfl, mapWork_transaction s fun u => rfl⟩
  | abort p => exact ⟨_, rfl, mapWork_transaction s fun u => mapWork_abort u p⟩
  | discardedTransaction p => exact ⟨_, rfl, mapWork_transaction s fun u => rfl⟩
  | claim p b => exact ⟨_, rfl, mapWork_posted s fun v u => mapWork_claim u p v⟩
  | release p b => exact ⟨_, rfl, mapWork_posted s fun v u => by rw [doRelease, mapWork_finish, mapWork_passAuthority]⟩
  | setShow p b => exact ⟨_, rfl, mapWork_posted s fun v u => mapWork_setShow u p v⟩
  | freeze p b => exact ⟨_, rfl, mapWork_posted s fun v u => mapWork_freeze u p v⟩
  | thaw p b => exact ⟨_, rfl, mapWork_posted s fun v u => mapWork_thaw u p v⟩
  | setBudget p b => exact ⟨_, rfl, mapWork_posted s fun v u => mapWork_setBudgetRequest u p v⟩
  | putProfile p b => exact ⟨_, rfl, mapWork_posted s fun v u => mapWork_putProfile u p v⟩
  | dropProfile p b => exact ⟨_, rfl, mapWork_posted s fun v u => mapWork_dropProfile u p v⟩
  | putMap p b => exact absurd rfl (hmap p b)
  | clearMap p b => exact ⟨_, rfl, mapWork_posted s fun v u => mapWork_clearMap u p v⟩
  | setTrack p b => exact ⟨_, rfl, mapWork_posted s fun v u => mapWork_setTrack u p v⟩
  | setSlew p b => exact ⟨_, rfl, mapWork_posted s fun v u => rfl⟩
  | setTemp p b => exact ⟨_, rfl, mapWork_posted s fun v u => mapWork_setTemp u p v⟩
  | setProtect p b => exact ⟨_, rfl, mapWork_posted s fun v u => rfl⟩
  | clearFaults p b => exact ⟨_, rfl, mapWork_posted s fun v u => mapWork_clearFaults u p v⟩
  | sweep p b => exact ⟨_, rfl, mapWork_posted s fun v u => mapWork_sweepRequest u p v⟩
  | relearn p b => exact ⟨_, rfl, mapWork_posted s fun v u => mapWork_relearn u p v⟩
  | restartChain p b => exact ⟨_, rfl, mapWork_posted s fun v u => mapWork_restartChain u p v⟩
  | setNotice p b => exact ⟨_, rfl, mapWork_posted s fun v u => rfl⟩
  | unknownRequestPost p code b =>
    exact ⟨_, rfl, mapWork_ite s rfl (mapWork_transaction s fun u => mapWork_unknownPost u p code)⟩
  | _ => exact absurd rfl hc

theorem mapWork_eventIf {f : State → State} {c : Bool} (hf : (f s).mapWork = s.mapWork) :
    (if c then event f s else s).mapWork = s.mapWork := mapWork_ite s hf rfl

theorem mapWork_of_chainCommand (c : Instr) (hc : transactionOn c = none) (hr : ∀ cause cut, c ≠ .hardReset cause cut)
    (hn : c ≠ .resetnRelease) (hw : c ≠ .storeWriteComplete) : ∃ t, exec c s = .next t ∧ t.mapWork = s.mapWork := by
  cases c with
  | hardReset cause cut => exact absurd rfl (hr cause cut)
  | resetnRelease => exact absurd rfl hn
  | storeWriteComplete => exact absurd rfl hw
  | roundStart => exact ⟨_, rfl, mapWork_eventIf s (mapWork_startRound s)⟩
  | relearnEnumerationStart => exact ⟨_, rfl, mapWork_ite s rfl rfl⟩
  | livenessTimerExpiry q => exact ⟨_, rfl, mapWork_eventIf s (mapWork_expireTimer s q)⟩
  | retryTimerExpiry i cls => exact ⟨_, rfl, mapWork_eventIf s rfl⟩
  | pollReply temp fault hours load echo =>
    refine ⟨_, rfl, ?_⟩
    split
    · exact mapWork_eventIf s (by simp)
    · rfl
  | pushReply echo =>
    refine ⟨_, rfl, ?_⟩
    split
    · exact mapWork_eventIf s (by simp)
    · rfl
  | senseReply status count =>
    refine ⟨_, rfl, ?_⟩
    split
    · exact mapWork_eventIf s (by simp)
    · rfl
  | settleWaitEnd =>
    refine ⟨_, rfl, ?_⟩
    split
    · exact mapWork_ite s rfl rfl
    · rfl
  | patchReply =>
    refine ⟨_, rfl, ?_⟩
    split
    · exact mapWork_ite s rfl rfl
    · simp
    · rfl
  | pollMiss | pushMiss | adoptReply serial | adoptNoReply | enumReply serial | enumNoReply | patchMiss | senseMiss =>
    refine ⟨_, rfl, ?_⟩
    split <;> simp
  | _ => simp [transactionOn] at hc

theorem exec_mapWork (c : Instr) (hr : ∀ cause cut, c ≠ .hardReset cause cut) (hn : c ≠ .resetnRelease)
    (hw : c ≠ .storeWriteComplete) (hmap : ∀ p b, c ≠ .putMap p b) : ∃ t, exec c s = .next t ∧ t.mapWork = s.mapWork := by
  by_cases hc : transactionOn c = none
  · exact mapWork_of_chainCommand s c hc hr hn hw
  · exact mapWork_of_transactionCommand s c hc hmap

end Sys2Proof.Machine
end

section
/-! The map and its inverse (R30, R51, R54): what a write, a cut-off write and the building of the inverse make of the entries, and the
step lemma. -/

namespace Sys2Proof.Machine

/-! ## Entries and inverse -/

/-- Each slot number stands at one position at most (R54). -/
def Store.PlacedOnce (st : Store) : Prop := ∀ (x y : Pos) (n : Slot), st.entry x = some n → st.entry y = some n → x = y

/-- The inverse names exactly the position whose entry names the slot (R51). -/
def Store.InLine (st : Store) (inv : Table (Option Pos) 64) : Prop :=
  ∀ (i : Slot) (x : Pos), inv.get i = some x ↔ st.entry x = some i

/-- No entry but the target holds the slot that a map write places (R54). -/
def WriteOp.PlacesFresh (op : WriteOp) (st : Store) : Prop :=
  ∀ x n, op = .putMap x (some n) → ∀ y, st.entry y = some n → y = x

theorem entry_congr {st st' : Store} (h : st'.map = st.map) (x : Pos) : st'.entry x = st.entry x := by
  unfold Store.entry
  rw [h]

theorem Store.PlacedOnce.of_entry {st st' : Store} (h : st.PlacedOnce) (he : ∀ x, st'.entry x = st.entry x) : st'.PlacedOnce := by
  intro x y n
  rw [he, he]
  exact h x y n

theorem Store.InLine.of_entry {st st' : Store} {inv : Table (Option Pos) 64} (h : st.InLine inv)
    (he : ∀ x, st'.entry x = st.entry x) : st'.InLine inv := by
  intro i x
  rw [he]
  exact h i x

/-- The inverse built at the end of verification is in line with a map that places each slot once (R51). -/
theorem buildInverse_inLine {st : Store} (h : st.PlacedOnce) : st.InLine (buildInverse st.map) := by
  intro i x
  refine ⟨entry_of_buildInverse st i x, fun hx => ?_⟩
  cases hy : (buildInverse st.map).get i with
  | none => exact absurd hx (entry_ne_of_buildInverse st i hy x)
  | some y => rw [h x y i hx (entry_of_buildInverse st i y hy)]

/-! ## A completed write -/

/-- A write of the profile area moves no map entry. -/
theorem map_apply_of_profile {op : WriteOp} {k : Nat} (h : op.profileIndex = some k) (st : Store) : (op.apply st).map = st.map := by
  cases op with
  | putProfile j r => exact putCell_map _ _ _
  | dropProfile j => exact putCell_map _ _ _
  | senseWrite w =>
    cases hr : st.profile w.index with
    | none => simp only [WriteOp.apply, hr]
    | some r => exact (congrArg Store.map (apply_senseWrite hr)).trans (putCell_map _ _ _)
  | putMap x c => cases h
  | clearMap => cases h

theorem entry_clearMap (st : Store) (x : Pos) : (WriteOp.clearMap.apply st).entry x = none :=
  congrArg MapCell.names (Table.get_fill _ _)

/-- An entry after a write held its slot before, or is the target of the PUT-MAP that places it. -/
theorem entry_apply {op : WriteOp} {st : Store} {x : Pos} {n : Slot} (h : (op.apply st).entry x = some n) :
    st.entry x = some n ∨ op = .putMap x (some n) := by
  cases op with
  | putMap y c =>
    have hput : (if x = y then c else st.entry x) = some n := (entry_put st y x c).symm.trans h
    split at hput
    · rename_i hxy
      exact .inr (by rw [hxy, hput])
    · exact .inl hput
  | clearMap => cases (entry_clearMap st x).symm.trans h
  | _ => exact .inl ((entry_congr (map_apply_of_profile rfl st) x).symm.trans h)

/-- Entries that come from a map that places each slot once, or from one write that places a fresh slot, place each slot once. -/
theorem Store.PlacedOnce.of_written {op : WriteOp} {st st' : Store} (hst : st.PlacedOnce) (hop : op.PlacesFresh st)
    (h : ∀ x n, st'.entry x = some n → st.entry x = some n ∨ op = .putMap x (some n)) : st'.PlacedOnce := by
  intro x y n hx hy
  rcases h x n hx with hx | hx <;> rcases h y n hy with hy | hy
  · exact hst x y n hx hy
  · exact hop y n hy x hx
  · exact (hop x n hx y hy).symm
  · rw [hx] at hy
    cases hy
    rfl

/-- A completed write keeps the inverse in line (R51). -/
theorem Store.InLine.apply {op : WriteOp} {st : Store} {inv : Table (Option Pos) 64} (h : st.InLine inv) (hst : st.PlacedOnce)
    (hop : op.PlacesFresh st) : (op.apply st).InLine (op.inverse st inv) := by
  cases op with
  | putMap x c =>
    intro i y
    have hentry : ((WriteOp.putMap x c).apply st).entry y = if y = x then c else st.entry y := entry_put st x y c
    rw [hentry, WriteOp.inverse, inverseAfterPut_get]
    by_cases hc : c = some i
    · rw [if_pos hc]
      by_cases hy : y = x
      · simp [hy, hc]
      · rw [if_neg hy]
        exact ⟨fun e => absurd (Option.some.inj e).symm hy, fun e => absurd (hop x i (by rw [hc]) y e) hy⟩
    · rw [if_neg hc]
      by_cases hold : st.entry x = some i
      · rw [if_pos hold]
        refine ⟨nofun, fun e => ?_⟩
        split at e
        · exact absurd e hc
        · rename_i hy
          exact absurd (hst y x i e hold) hy
      · rw [if_neg hold, h i y]
        by_cases hy : y = x
        · simp [hy, hc, hold]
        · rw [if_neg hy]
  | clearMap =>
    intro i y
    rw [entry_clearMap, WriteOp.inverse, Table.get_fill]
    simp
  | putProfile _ _ | dropProfile _ | senseWrite _ => exact h.of_entry (entry_congr (map_apply_of_profile rfl st))

/-! ## A write cut off -/

/-- A map cell after a cut holds what it held, or what the write brings, or no slot (R30). -/
theorem names_cutEntry {c : CutOutcome} {old new : MapCell} {n : Slot} (h : (cutEntry c old new).names = some n) :
    old.names = some n ∨ new.names = some n := by
  cases c with
  | old => exact .inl h
  | new => exact .inr h
  | failing => cases h

/-- A cut-off write of the profile area moves no map entry. -/
theorem map_cutOff_of_profile {op : WriteOp} {k : Nat} (h : op.profileIndex = some k) (cut : List CutOutcome) (st : Store) :
    (op.cutOff cut st).map = st.map := by
  have happly := map_apply_of_profile h st
  cases op with
  | putMap x c => cases h
  | clearMap => cases h
  | putProfile _ _ | dropProfile _ | senseWrite _ =>
    unfold WriteOp.cutOff
    dsimp only
    split
    · rfl
    · exact happly
    · exact putCell_map _ _ _

/-- An entry after a cut held its slot before, or is the target of the PUT-MAP that was to place it (R30). -/
theorem entry_cutOff {op : WriteOp} {cut : List CutOutcome} {st : Store} {x : Pos} {n : Slot}
    (h : (op.cutOff cut st).entry x = some n) : st.entry x = some n ∨ op = .putMap x (some n) := by
  cases op with
  | putMap y c =>
    simp only [WriteOp.cutOff, WriteOp.apply, Store.entry, Table.get_put, number_inj] at h
    split at h
    · rename_i hxy
      subst hxy
      refine (names_cutEntry h).imp id fun hnew => ?_
      rw [if_pos trivial, names_cellOf] at hnew
      rw [hnew]
    · exact .inl h
  | clearMap =>
    simp only [WriteOp.cutOff, Store.entry, Table.get_mapIdx] at h
    exact (names_cutEntry h).imp id nofun
  | putProfile _ _ | dropProfile _ | senseWrite _ => exact .inl ((entry_congr (map_cutOff_of_profile rfl cut st) x).symm.trans h)

/-! ## The invariants of the map -/

/-- Both invariants of the map: each slot once (R54), and the inverse in line (R51). -/
def MapSound (s : State) : Prop := MapInv s ∧ InverseInv s

theorem mapInv_iff (s : State) : MapInv s ↔ s.store.PlacedOnce
    ∧ ∀ x n, s.placing = some (x, some n) → ∀ y, s.store.entry y = some n → y = x := by
  refine and_congr_right fun _ => ⟨fun h x n hp => ?_, fun h w x n hw hop => ?_⟩
  · obtain ⟨w, hw, hop⟩ := (placing_iff s _ _).mp hp
    exact h w x n hw hop
  · exact h x n ((placing_iff s _ _).mpr ⟨w, hw, hop⟩)

/-- With no PUT-MAP in flight the map is sound where it places each slot once and the inverse is in line with it. -/
theorem mapSound_of_placedOnce {t : State} (hp : t.placing = none) (h : t.store.PlacedOnce)
    (hinv : t.inReset = false → t.store.InLine t.inverse) : MapSound t :=
  ⟨(mapInv_iff t).mpr ⟨h, fun x n e => by rw [hp] at e; cases e⟩, hinv⟩

/-- The write in flight of a sound state places a fresh slot. -/
theorem MapInv.placesFresh {s : State} (h : MapInv s) {w : StoreWrite} (hw : s.store.write = some w) : w.op.PlacesFresh s.store :=
  fun x n hop => h.2 w x n hw hop

/-- The invariants are about the map, the inverse, RESETn's level and the PUT-MAP in flight alone. -/
theorem MapSound.of_same {s t : State} (h : MapSound s) (hmap : t.store.map = s.store.map) (hinv : t.inverse = s.inverse)
    (hwork : t.mapWork = s.mapWork) : MapSound t := by
  obtain ⟨hplaced, hline⟩ := h
  obtain ⟨honce, hfresh⟩ := (mapInv_iff s).mp hplaced
  obtain ⟨hreset, hplacing⟩ := Prod.mk.inj hwork
  have hentry := entry_congr hmap
  refine ⟨(mapInv_iff t).mpr ⟨honce.of_entry hentry, fun x n hp y hy => ?_⟩, fun ht => ?_⟩
  · exact hfresh x n (hplacing.symm.trans hp) y ((hentry y).symm.trans hy)
  · have hline : s.store.InLine s.inverse := hline (hreset.symm.trans ht)
    rw [hinv]
    exact hline.of_entry hentry

/-! ## The commands that move the map -/

/-- A PUT-MAP begins its write only for a slot that stands at no other position (R54). -/
theorem MapSound.of_putMap {s : State} (h : MapSound s) (p : Port) (x : Pos × Option Slot) : MapSound (doPutMap p x s) := by
  have hrefused : ∀ why, MapSound (refuse p .putMap why s) := fun why => h.of_same rfl rfl rfl
  unfold doPutMap
  split
  · exact hrefused _
  · split
    · exact hrefused _
    · rename_i hfree
      obtain ⟨hplaced, hline⟩ := h
      refine ⟨(mapInv_iff _).mpr ⟨((mapInv_iff s).mp hplaced).1, fun y n hp z hz => ?_⟩, hline⟩
      have hx : x = (y, some n) := Option.some.inj hp
      by_contra hne
      exact hfree (mapInUse_iff.mpr ⟨n, z, by rw [hx], by rwa [hx], hz⟩)

/-- A completed write leaves no PUT-MAP in flight, each slot once, and the inverse in line (R29, R51, R54). -/
theorem MapSound.of_completeWrite {s : State} (h : MapSound s) {w : StoreWrite} (hw : s.store.write = some w) :
    MapSound (completeWrite w s) := by
  obtain ⟨hplaced, hline⟩ := h
  have honce := ((mapInv_iff s).mp hplaced).1
  have hfresh := hplaced.placesFresh hw
  have hrecords := records_completeWrite s w
  have hentry : ∀ x, (completeWrite w s).store.entry x = (w.op.apply s.store).entry x :=
    entry_congr (congrArg StandingRecords.map hrecords)
  have hinverse : (completeWrite w s).inverse = w.op.inverse s.store s.inverse := congrArg StandingRecords.inverse hrecords
  obtain ⟨hreset, hplacing⟩ := Prod.mk.inj (mapWork_completeWrite s w)
  refine mapSound_of_placedOnce hplacing (honce.of_written hfresh fun x n e => entry_apply ((hentry x).symm.trans e)) fun ht => ?_
  have hline : s.store.InLine s.inverse := hline (hreset.symm.trans ht)
  rw [hinverse]
  exact (hline.apply honce hfresh).of_entry hentry

/-- What a hard reset leaves of the map places each slot once, a cut-off write included (R30, R54). -/
theorem placedOnce_hardReset {s : State} (h : MapInv s) (cut : List CutOutcome) : (s.store.hardReset cut).PlacedOnce := by
  have honce := ((mapInv_iff s).mp h).1
  cases hw : s.store.write with
  | none => exact honce.of_entry (entry_congr (by rw [hardReset_of_idle cut hw]))
  | some w =>
    refine honce.of_written (h.placesFresh hw) fun x n e => entry_cutOff (cut := cut) ?_
    rw [← e]
    refine (entry_congr ?_ x).symm
    unfold Store.hardReset
    rw [hw]

theorem mapSound_underReset {s : State} (h : MapInv s) (cut : List CutOutcome) : MapSound (underReset cut s) :=
  mapSound_of_placedOnce rfl (placedOnce_hardReset h cut) nofun

/-- The end of a reset keeps the good entries and builds the inverse from them (R31, R51). -/
theorem mapSound_endReset {s : State} (h : MapInv s) : MapSound (endReset s) := by
  obtain ⟨honce, hfresh⟩ := (mapInv_iff s).mp h
  have hentry : ∀ x, (endReset s).store.entry x = s.store.entry x := entry_verify s.store
  have honce' := honce.of_entry hentry
  exact ⟨(mapInv_iff _).mpr ⟨honce', fun x n hp y hy => hfresh x n hp y ((hentry y).symm.trans hy)⟩,
    fun _ => buildInverse_inLine honce'⟩

/-! ## Every command -/

/-- A command that is no PUT-MAP, store-write completion or reset leaves all that the invariants are about. -/
theorem MapSound.of_otherCommand {s : State} (h : MapSound s) {c : Instr} (hr : ∀ cause cut, c ≠ .hardReset cause cut)
    (hn : c ≠ .resetnRelease) (hw : c ≠ .storeWriteComplete) (hmap : ∀ p b, c ≠ .putMap p b) :
    ∃ t, exec c s = .next t ∧ MapSound t := by
  obtain ⟨t, ht, hwork⟩ := exec_mapWork s c hr hn hw hmap
  obtain ⟨u, hu, hown⟩ := exec_ownChange s c hr
  rw [ht] at hu
  cases hu
  obtain ⟨_, hm, hi, _⟩ := hown.areas hr hw hn
  exact ⟨t, ht, h.of_same hm hi hwork⟩

theorem exec_mapSound {s : State} (h : MapSound s) (c : Instr) : ∃ t, exec c s = .next t ∧ MapSound t := by
  cases c with
  | hardReset cause cut =>
    cases cause with
    | powerUp => exact ⟨_, rfl, mapSound_endReset (mapSound_underReset h.1 cut).1⟩
    | resetnLow => exact ⟨_, rfl, mapSound_underReset h.1 cut⟩
  | resetnRelease =>
    refine ⟨_, rfl, ?_⟩
    split
    · exact mapSound_endReset h.1
    · exact h
  | storeWriteComplete =>
    refine ⟨_, rfl, ?_⟩
    split
    · rename_i w hw
      exact (h.of_completeWrite hw).of_same rfl rfl rfl
    · exact h
  | putMap p b =>
    exact ⟨_, rfl, posted_keeps s (fun u y hu => hu.of_same rfl rfl rfl) (fun u y hu => hu.of_same rfl rfl rfl)
      (fun x u hu => hu.of_putMap p x) h⟩
  | _ => exact h.of_otherCommand nofun nofun nofun nofun

end Sys2Proof.Machine

open Sys2Proof Sys2Proof.Machine

/-- Settles O57: the map moves at store-write completions and resets alone, the PUT-MAP in flight at those and at a PUT-MAP, and each of
these keeps both invariants. -/
theorem stepKeepsTheMap : Obligations.StepKeepsTheMap := by
  intro s t hplaced hline hstep
  have hs : MapSound s := ⟨hplaced, hline⟩
  unfold step at hstep
  split at hstep
  · rename_i c rest _
    obtain ⟨u, hu, hsound⟩ := exec_mapSound (s := s.setPending rest) hs c
    rw [hu] at hstep
    cases hstep
    exact hsound
  · cases hstep
    have hsame := records_tick s
    exact hs.of_same (congrArg StandingRecords.map hsame) (congrArg StandingRecords.inverse hsame) (mapWork_tick s)

end

