-- ==== Sys2Proof/Proofs/Temperature.lean ====
section
/-! PROOFS. SET-TEMP: the settings it holds, the accumulators it empties and what it leaves as it was (R73, R76). -/

namespace Sys2Proof.Machine

/-! ## Settings given and clamped -/

/-- A setting is the given value clamped where its bit is set, and the held value otherwise (R204). -/
theorem setTo_given {α β : Type} (bit : Bool) (v : α) (clamp : α → β) (held : β) :
    setTo (given bit v) clamp held = if bit = true then clamp v else held := by
  cases bit <;> rfl

theorem clampNat_eq {lo hi : Nat} (x : Nat) (h : lo ≤ hi) : clampNat lo hi x = max lo (min hi x) := by
  unfold clampNat
  split
  · omega
  · split <;> omega

theorem clampInt_eq {lo hi : Int} (x : Int) (h : lo ≤ hi) : clampInt lo hi x = max lo (min hi x) := by
  unfold clampInt
  split
  · omega
  · split <;> omega

/-! ## Notices -/

/-- An event that leaves every slot record, every protection record and the budget unit adds no notice. -/
theorem notify_of_sameSlots {s t : State} (hchain : ∀ i, (t.tile i).chain = (s.tile i).chain)
    (hprot : ∀ i, (t.tile i).prot = (s.tile i).prot) (hb : t.budget = s.budget) : notify s t = t := by
  refine notify_quiet (tileDue_false fun i => ?_) (condDue_false (fun i => ?_) (by rw [hb]) (by rw [hb]))
  · rw [hchain i]
    exact tileNotice_self _
  · rw [hprot i]
    exact ProtRec.sameFlags_self _

/-! ## The effect of a SET-TEMP -/

section Effect

variable (p : Port) (x : TempBlock) (s : State)

theorem tile_emptyAccumulators (i : Slot) :
    (emptyAccumulators s).tile i = { s.tile i with temp := { (s.tile i).temp with sum := 0, count := 0 } } := by
  rw [emptyAccumulators, State.tile_setTiles, Table.get_map]
  rfl

theorem doSetTemp_of_sameW (h : (tempAfter x s.tempSet).w = s.tempSet.w) :
    doSetTemp p x s = finish p .setTemp (.temp (tempAfter x s.tempSet)) (s.setTempSet (tempAfter x s.tempSet)) := by
  rw [doSetTemp, State.setTempSet_tempSet, if_pos h]
  rfl

theorem doSetTemp_of_newW (h : (tempAfter x s.tempSet).w ≠ s.tempSet.w) :
    doSetTemp p x s = finish p .setTemp (.temp (tempAfter x s.tempSet))
      (emptyAccumulators (s.setTempSet (tempAfter x s.tempSet))) := by
  rw [doSetTemp, State.setTempSet_tempSet, if_neg h]
  rfl

@[simp] theorem doSetTemp_tempSet : (doSetTemp p x s).tempSet = tempAfter x s.tempSet :=
  congrArg StandingRecords.tempSet (records_setTemp s p x)

theorem tiles_doSetTemp_of_sameW (h : (tempAfter x s.tempSet).w = s.tempSet.w) : (doSetTemp p x s).tiles = s.tiles := by
  rw [doSetTemp_of_sameW p x s h]
  rfl

/-- A change of w empties the accumulator of every slot, and Teff stands (R73). -/
theorem tile_doSetTemp_of_newW (h : (tempAfter x s.tempSet).w ≠ s.tempSet.w) (i : Slot) :
    (doSetTemp p x s).tile i = { s.tile i with temp := { (s.tile i).temp with sum := 0, count := 0 } } := by
  rw [doSetTemp_of_newW p x s h]
  exact tile_emptyAccumulators (s.setTempSet (tempAfter x s.tempSet)) i

/-- Whether w changes or not, a slot moves in its temperature record alone. -/
theorem tile_doSetTemp (i : Slot) :
    (doSetTemp p x s).tile i = (s.tile i).setTemp ((doSetTemp p x s).tile i).temp := by
  by_cases h : (tempAfter x s.tempSet).w = s.tempSet.w
  · rw [State.tile, tiles_doSetTemp_of_sameW p x s h]
    rfl
  · rw [tile_doSetTemp_of_newW p x s h]
    rfl

theorem doSetTemp_ports :
    PortsAfter p ⟨.setTemp, .done, none, .temp (tempAfter x s.tempSet)⟩ {} s (doSetTemp p x s) := by
  by_cases h : (tempAfter x s.tempSet).w = s.tempSet.w
  · rw [doSetTemp_of_sameW p x s h]
    exact (complete_spec (s.setTempSet (tempAfter x s.tempSet)) p .setTemp .done none _).1
  · rw [doSetTemp_of_newW p x s h]
    exact (complete_spec (emptyAccumulators (s.setTempSet (tempAfter x s.tempSet))) p .setTemp .done none _).1

theorem doSetTemp_frame :
    doSetTemp p x s = { s with
      ports := (doSetTemp p x s).ports, tempSet := (doSetTemp p x s).tempSet, tiles := (doSetTemp p x s).tiles } := by
  by_cases h : (tempAfter x s.tempSet).w = s.tempSet.w
  · rw [doSetTemp_of_sameW p x s h]
    rfl
  · rw [doSetTemp_of_newW p x s h]
    rfl

/-- A SET-TEMP changes no slot state, flag or action, so its event adds no notice. -/
theorem notify_doSetTemp (a : Authority) : notify s (doSetTemp p x (s.setAuth a)) = doSetTemp p x (s.setAuth a) := by
  refine notify_of_sameSlots (fun i => ?_) (fun i => ?_) ?_
  · rw [tile_doSetTemp, Tile.setTemp_chain, State.tile_setAuth]
  · rw [tile_doSetTemp, Tile.setTemp_prot, State.tile_setAuth]
  · rw [doSetTemp_frame, State.setAuth_budget]

end Effect

theorem exec_setTemp {p : Port} {block : List Byte} {x : TempBlock} {s : State} (h : Accepts .setTemp p s)
    (hx : readTemp block = some x) :
    exec (.setTemp p block) s = .next (doSetTemp p x (s.setAuth (trafficAuth p s))) := by
  rw [← notify_doSetTemp, ← posted_accepted s h hx]
  rfl

end Sys2Proof.Machine

open Sys2Proof Sys2Proof.Machine

/-- Settles O25: the settings clause by clause from what the block gives, then the tiles by whether w has changed. -/
theorem setTempHoldsItsSettings : Obligations.SetTempHoldsItsSettings := by
  intro p block s hacc hlen
  obtain ⟨x, hread, hx⟩ : ∃ x, readTemp block = some x ∧ x = ⟨given (bitAt block 0 0) (u16At block 2),
      given (bitAt block 0 1) (s16At block 4), given (bitAt block 0 2) (s16At block 6),
      given (bitAt block 0 3) (u16At block 8)⟩ := ⟨_, if_pos hlen, rfl⟩
  refine ⟨_, setTo x.hotLimit (clampInt 40 105) s.tempSet.hotLimit, exec_setTemp hacc hread, ?hot, ?w, ?trip, ?held,
    ?hysteresis, ?_, ?_, ?_, doSetTemp_frame p x _⟩
  case hot => rw [hx, setTo_given, clampInt_eq _ (by decide)]
  case w => rw [doSetTemp_tempSet, hx]; exact setTo_given ..
  case trip => rw [doSetTemp_tempSet, hx, ← clampInt_eq _ (by decide)]; exact setTo_given ..
  case held => rw [doSetTemp_tempSet]; rfl
  case hysteresis => rw [doSetTemp_tempSet, hx, ← clampNat_eq _ (by decide)]; exact setTo_given ..
  all_goals rw [doSetTemp_tempSet]
  · exact tiles_doSetTemp_of_sameW p x _
  · exact tile_doSetTemp_of_newW p x _
  · exact doSetTemp_ports p x _

end

section
/-! PROOFS. The gains and coefficients that a tile holds (R94, R96, R107, R114): their bounds, and what keeps them tile by tile. -/

namespace Sys2Proof.Machine

/-! ## The bounds -/

/-- The coefficients and gains that a tile holds lie within their bounds. -/
def Tile.GainsSound (t : Tile) : Prop :=
  optWithin 4095 t.chain.pending ∧ optWithin 4095 t.chain.confirmed ∧ optWithin 4096 t.slew.ga
    ∧ RGB.within 4096 t.slew.manual ∧ optWithin 4096 t.eng.gt

/-- The coefficients of a PUSH in flight lie within their bound. -/
def Activity.PushSound (a : Activity) : Prop := ∀ i c, a = .push i c → RGB.within 4095 c

/-- Every coefficient and gain of the part lies within its bound. -/
def GainsSound (s : State) : Prop := (∀ i, (s.tile i).GainsSound) ∧ s.chain.activity.PushSound

theorem gainsSound_iff (s : State) : GainsSound s ↔ CoefInv s ∧ GainInv s := by
  refine ⟨fun ⟨htile, hpush⟩ => ⟨⟨fun i => ?_, hpush⟩, fun i => ?_⟩, fun ⟨⟨hcoef, hpush⟩, hgain⟩ => ⟨fun i => ?_, hpush⟩⟩
  · obtain ⟨hpending, hconfirmed, _⟩ := htile i
    exact ⟨hpending, hconfirmed⟩
  · exact (htile i).2.2
  · exact ⟨(hcoef i).1, (hcoef i).2, hgain i⟩

theorem RGB.within_iff {n : Nat} {x : RGB Nat} : RGB.within n x ↔ ∀ c, x.get c ≤ n := by
  refine ⟨fun ⟨hr, hg, hb⟩ c => ?_, fun h => ⟨h .r, h .g, h .b⟩⟩
  cases c
  · exact hr
  · exact hg
  · exact hb

theorem RGB.within_all {n v : Nat} (h : v ≤ n) : RGB.within n (RGB.all v) := ⟨h, h, h⟩

theorem optWithin_none (n : Nat) : optWithin n none := nofun

theorem optWithin_some {n : Nat} {x : RGB Nat} (h : RGB.within n x) : optWithin n (some x) := fun _ e => Option.some.inj e ▸ h

/-- A tile that starts afresh holds no gain but the manual ones at 4096 (R12, R24, R105). -/
theorem gainsSound_fresh (c : SlotRec) (hpending : c.pending = none) (hconfirmed : optWithin 4095 c.confirmed) :
    ({ chain := c } : Tile).GainsSound :=
  ⟨(congrArg (optWithin 4095) hpending).mpr (optWithin_none _), hconfirmed, optWithin_none _, RGB.within_all (le_refl _),
    optWithin_none _⟩

theorem gainsSound_default : ({} : Tile).GainsSound := gainsSound_fresh {} rfl (optWithin_none _)

/-- The echo fields of a valid reply carry coefficients in range (R7). -/
theorem within_of_coefFieldOk {echo : RGB Nat} (h : coefFieldOk echo = true) : RGB.within 4095 echo := by
  unfold coefFieldOk RGB.every at h
  simpa [RGB.within, and_assoc] using h

/-! ## Formation -/

section Tile

variable {t : Tile} (h : t.GainsSound)
include h

/-- A formation writes coefficients of at most 4095 (R96). -/
theorem Tile.GainsSound.formTile (b : FormedBy) (m sb : Nat) : (formTile b m sb t).GainsSound := by
  have ⟨_, hrest⟩ := h
  rcases formTile_cases b m sb t with ⟨_, e⟩ | ⟨g, _, e⟩ <;> rw [e]
  · exact h
  · exact ⟨optWithin_some (RGB.within_iff.mpr fun c => by rw [RGB.get_map]; exact coefficient_le _ _ _ _), hrest⟩

theorem Tile.GainsSound.settleTile (m sb : Nat) (was : Bool) : (settleTile m sb was t).GainsSound := by
  rcases settleTile_cases m sb was t with e | e <;> rw [e]
  · exact h
  · exact Tile.GainsSound.formTile (t := t.setProt { t.prot with p := protFactor t.prot }) h _ _ _

/-! ## The stages of a recomputation -/

/-- Stages 1 to 5 give no gain, and take back coefficients and target gains at most (R82). -/
theorem Tile.GainsSound.stagesTo5 (number : Nat) (floors : RGB Nat) (report : Bool) :
    (stagesTo5 number floors report t).GainsSound := by
  have ⟨hpending, hconfirmed, hga, hmanual, hgt⟩ := h
  have huncomputed : (judgeShort report (t.setEng t.eng.uncomputed)).GainsSound :=
    ⟨hpending, hconfirmed, hga, hmanual, optWithin_none _⟩
  unfold Machine.stagesTo5
  split
  · exact h
  · exact ⟨optWithin_none _, hconfirmed, hga, hmanual, hgt⟩
  · exact h
  · exact huncomputed
  · split
    · exact h
    · exact huncomputed

/-- One step leaves every applied gain between its old value and its target (R113, R114). -/
theorem within_slewComputing (x : SlewSettings) (holding : Bool) {gt : RGB Nat} (hgt : RGB.within 4096 gt) :
    optWithin 4096 (slewComputing x holding gt t.slew).ga ∧ RGB.within 4096 (slewComputing x holding gt t.slew).manual := by
  obtain ⟨_, _, hga, hmanual, _⟩ := h
  unfold slewComputing
  split
  · exact ⟨optWithin_some hgt, hmanual⟩
  · split
    · exact ⟨hga, hmanual⟩
    · split
      · exact ⟨hga, hmanual⟩
      · rename_i ga hsome
        refine ⟨optWithin_some (RGB.within_iff.mpr fun c => ?_), hmanual⟩
        have hstep := (slewStep_between x (ga.get c) (gt.get c)).2
        have hold := RGB.within_iff.mp (hga ga hsome) c
        have hnew := RGB.within_iff.mp hgt c
        simp only [RGB.get_map, RGB.get_zip]
        omega

/-- Stages 8 and 9 give target gains of at most 4096, and applied gains between the old and those, or at the manual ones, or at 4096
(R94, R113, R114). -/
theorem Tile.GainsSound.stages8And9 (x : SlewSettings) (target : RGB Nat) : (stages8And9 x target t).GainsSound := by
  have ⟨hpending, hconfirmed, hga, hmanual, hgt⟩ := h
  unfold Machine.stages8And9
  split
  · split
    · exact ⟨hpending, hconfirmed, optWithin_some hmanual, hmanual, hgt⟩
    · split
      · have hnew : RGB.within 4096 (target.zip targetGain (t.eng.e.getD (RGB.all 0))) :=
          RGB.within_iff.mpr fun c => by rw [RGB.get_zip]; exact targetGain_le _ _
        obtain ⟨hslew, hman⟩ := within_slewComputing h x t.prot.holding hnew
        exact ⟨hpending, hconfirmed, hslew, hman, optWithin_some hnew⟩
      · exact h
  · exact ⟨hpending, hconfirmed, optWithin_some (RGB.within_all (le_refl _)), hmanual, hgt⟩
  · exact h
  · exact h
  · exact h

/-! ## Replies, misses and bindings -/

/-- A tile whose frame has been answered with confirmed coefficients `c`. -/
theorem Tile.GainsSound.confirm {c : RGB Nat} (hc : RGB.within 4095 c) {y : SlotRec} (hpending : y.pending = t.chain.pending)
    (hconfirmed : y.confirmed = some c) : (t.setChain y).GainsSound := by
  obtain ⟨hold, _, hrest⟩ := h
  refine ⟨?_, ?_, hrest⟩
  · rw [Tile.setChain_chain, hpending]
    exact hold
  · rw [Tile.setChain_chain, hconfirmed]
    exact optWithin_some hc

theorem Tile.GainsSound.countMiss (limit : Nat) : (countMiss limit t).GainsSound := by
  unfold Machine.countMiss
  dsimp only
  split
  · split <;> exact h
  · split <;> exact h

theorem Tile.GainsSound.returnFromLost : (returnFromLost t).GainsSound := by
  unfold Machine.returnFromLost
  split <;> exact h

theorem Tile.GainsSound.lostAnswered (policy : LostPolicy) : (lostAnswered policy t).GainsSound := by
  cases policy
  · exact h.returnFromLost
  · exact h

theorem Tile.GainsSound.pollState (policy : LostPolicy) : (pollState policy t).GainsSound := by
  unfold Machine.pollState
  split
  · split <;> exact h
  · exact h.lostAnswered policy
  all_goals exact h

/-- A failed binding sets the applied gains to 4096 (R116). -/
theorem Tile.GainsSound.failBinding (why : UnprofReason) (w : Working) : (failBinding why w t).GainsSound := by
  obtain ⟨hpending, hconfirmed, _, hmanual, hgt⟩ := h
  rw [failBinding_eq]
  exact ⟨hpending, hconfirmed, optWithin_some (RGB.within_all (le_refl _)), hmanual, hgt⟩

theorem Tile.GainsSound.succeedBinding (k : Nat) (w : Working) : (succeedBinding k w t).GainsSound := by
  unfold Machine.succeedBinding
  dsimp only
  split
  · exact h
  · split <;> exact h

theorem Tile.GainsSound.reresolve (st : Store) : (reresolve st t).GainsSound := by
  rcases reresolve_cases st t with ⟨w, e⟩ | ⟨why, w, e⟩ <;> rw [e]
  · exact h
  · exact h.failBinding why w

theorem Tile.GainsSound.enumTile (policy : LostPolicy) (serial : Serial) : (enumTile policy serial t).GainsSound := by
  unfold Machine.enumTile
  split
  · split
    · exact h.lostAnswered policy
    · exact h
  · exact gainsSound_fresh _ rfl (optWithin_none _)

/-! ## Requests -/

/-- Manual gains are taken clamped, and an ACTIVE slot may jump to them (R107, R109). -/
theorem Tile.GainsSound.trackTile (x : TrackBlock) (m sb : Nat) : (trackTile x m sb t).GainsSound := by
  obtain ⟨hpending, hconfirmed, hga, hmanual, hgt⟩ := h
  have hnew : RGB.within 4096 (trackRecord x t.slew).manual :=
    setTo_of x.manual (fun g _ => RGB.within_iff.mpr fun c => by rw [RGB.get_map]; exact min_le_left _ _) hmanual
  unfold Machine.trackTile
  dsimp only
  split
  · refine Tile.GainsSound.formTile ?_ _ _ _
    exact ⟨hpending, hconfirmed, optWithin_some hnew, hnew, hgt⟩
  · exact ⟨hpending, hconfirmed, hga, hnew, hgt⟩

theorem Tile.GainsSound.clearTile (x : ProtSettings) : (clearTile x t).GainsSound := by
  unfold Machine.clearTile clearStart
  dsimp only
  split
  · exact h.returnFromLost
  · exact h

end Tile

end Sys2Proof.Machine
end

section
/-! PROOFS. What the blocks of the part do to the gains and coefficients (R94, R96, R107, R114): rounds, sweeps, binding,
enumeration, time and the requests. -/

namespace Sys2Proof.Machine

variable {s t : State}

/-! ## Updates -/

section Update

variable (h : GainsSound s)
include h

theorem GainsSound.setTiles {x : Table Tile 64} (hx : ∀ i, (x.get i).GainsSound) : GainsSound (s.setTiles x) := ⟨hx, h.2⟩

theorem GainsSound.mapTiles {f : Tile → Tile} (hf : ∀ t : Tile, t.GainsSound → (f t).GainsSound) :
    GainsSound (s.setTiles (s.tiles.map f)) :=
  h.setTiles fun i => by rw [Table.get_map]; exact hf _ (h.1 i)

theorem GainsSound.mapIdxTiles {f : Slot → Tile → Tile} (hf : ∀ i (t : Tile), t.GainsSound → (f i t).GainsSound) :
    GainsSound (s.setTiles (s.tiles.mapIdx f)) :=
  h.setTiles fun i => by rw [Table.get_mapIdx]; exact hf i _ (h.1 i)

theorem GainsSound.putTile (i : Slot) {x : Tile} (hx : x.GainsSound) : GainsSound (s.putTile i x) :=
  h.setTiles fun j => by
    rw [Table.get_put]
    split
    · exact hx
    · exact h.1 j

/-- A change of one tile's protection record. -/
theorem GainsSound.putProt (i : Slot) (r : ProtRec) : GainsSound (s.putTile i ((s.tile i).setProt r)) :=
  h.putTile i (x := (s.tile i).setProt r) (h.1 i)

theorem GainsSound.setChain {x : ChainCtl} (hx : x.activity.PushSound) : GainsSound (s.setChain x) := ⟨h.1, hx⟩

theorem GainsSound.setActivity {a : Activity} (ha : a.PushSound) : GainsSound (s.setActivity a) := ⟨h.1, ha⟩

theorem GainsSound.setAuth (x : Authority) : GainsSound (s.setAuth x) := h

theorem GainsSound.setShowRec (x : ShowRec) : GainsSound (s.setShowRec x) := h

theorem GainsSound.setProtSet (x : ProtSettings) : GainsSound (s.setProtSet x) := h

theorem GainsSound.setBudget (x : Budget) : GainsSound (s.setBudget x) := h

theorem GainsSound.setSweep (x : SweepRec) : GainsSound (s.setSweep x) := h

theorem GainsSound.noticeAll (n : Notices) : GainsSound (s.noticeAll n) := h

theorem GainsSound.finish (p : Port) (n : ReqName) (d : ResultData) : GainsSound (finish p n d s) := h

/-- Protection records hold no gain. -/
theorem GainsSound.sameButProt (ht : SameButProt s t) (ha : t.chain = s.chain) : GainsSound t :=
  ⟨fun i => by rw [ht i]; exact h.1 i, by rw [ha]; exact h.2⟩

theorem GainsSound.foldl {α : Type} {f : State → α → State} (hf : ∀ u x, GainsSound u → GainsSound (f u x)) (xs : List α) :
    GainsSound (xs.foldl f s) := by
  induction xs generalizing s with
  | nil => exact h
  | cons x xs ih => exact ih (hf s x h)

end Update

theorem GainsSound.ite {c : Prop} [Decidable c] (hs : GainsSound s) (ht : GainsSound t) : GainsSound (if c then s else t) := by
  split
  · exact hs
  · exact ht

variable (h : GainsSound s)
include h

/-! ## The rest of a round -/

theorem GainsSound.recompute : GainsSound (recompute s) := by
  refine ⟨fun i => ?_, h.2⟩
  rw [tile_recompute]
  have hstages := ((h.1 i).stagesTo5 (nextCount s.wall.number) (s.showRec.want.map (floorOf s.showRec.floorRatio))
    s.protSet.shortReport).stages8And9 s.slewSet (Machine.recompute s).wall.target
  exact Tile.GainsSound.formTile (t := noteTerm s.showRec.m _) hstages _ _ _

/-- A PUSH carries the pending coefficients of its slot (R5). -/
theorem GainsSound.pushFrom (k : Nat) : GainsSound (pushFrom k s) := by
  rcases pushFrom_spec s k with ⟨e, _⟩ | ⟨i, _, _, e⟩ <;> rw [e]
  · exact h.setActivity nofun
  · refine h.setActivity fun j c hc => ?_
    injection hc with _ hc
    subst hc
    obtain ⟨hpending, _⟩ := h.1 i
    cases hp : (s.tile i).chain.pending with
    | none => exact RGB.within_all (Nat.zero_le _)
    | some v => exact hpending v hp

theorem GainsSound.completePollPhase : GainsSound (completePollPhase s) := h.recompute.pushFrom 0

theorem GainsSound.endSweep (v : Verdict) (why : Option Reason) : GainsSound (endSweep v why s) := by
  rw [endSweep_frame]
  exact h

theorem GainsSound.failTile (i : Slot) (why : ProbeReason) (c : Option Chan) : GainsSound (failTile i why c s) :=
  (h.putProt i _).setSweep _

theorem GainsSound.finishRange : GainsSound (finishRange s) := by
  unfold Machine.finishRange
  split
  · exact h.endSweep _ _
  · exact h

theorem GainsSound.probeFromCursor : GainsSound (probeFromCursor s) := by
  unfold Machine.probeFromCursor
  split
  · exact h
  · dsimp only
    split
    · exact (h.setSweep _).setActivity nofun
    · exact (h.setSweep _).finishRange

theorem GainsSound.probeStep : GainsSound (probeStep s) := by
  unfold Machine.probeStep
  split
  · exact h.probeFromCursor
  · dsimp only
    split
    · split
      · exact (h.setSweep _).probeFromCursor
      · split
        · exact h.setActivity nofun
        · exact (h.setSweep _).probeFromCursor
    · split <;> exact (h.failTile _ _ _).probeFromCursor

theorem GainsSound.probePhase : GainsSound (probePhase s) := by
  have hstep : GainsSound (Machine.probeStep (s.setActivity .idle)) :=
    (h.setActivity (a := .idle) nofun).probeStep
  unfold Machine.probePhase
  split
  · exact .ite hstep hstep.completePollPhase
  · exact h.completePollPhase

theorem GainsSound.pollFrom (k : Nat) : GainsSound (pollFrom k s) := by
  rcases pollFrom_spec s k with ⟨e, _⟩ | ⟨i, _, _, e⟩ <;> rw [e]
  · unfold adoptPhase
    split
    · exact h.setChain nofun
    · exact h.probePhase
  · exact h.setActivity nofun

theorem GainsSound.startRound : GainsSound (startRound s) :=
  GainsSound.pollFrom (s := s.setChain { s.chain with roundTimer := some 0, startNow := false }) h 0

/-! ## The end of a probe step -/

theorem GainsSound.reportSense (w : SenseWrite) (ok : Bool) : GainsSound (reportSense w ok s) :=
  h.sameButProt (sameButProt_of_reportSense w ok) (by rw [reportSense_frame])

theorem GainsSound.startQueue (ws : List SenseWrite) : GainsSound (startQueue ws s) := by
  induction ws generalizing s with
  | nil => exact h
  | cons w ws ih =>
    unfold Machine.startQueue
    split
    · exact h
    · exact ih (h.reportSense w false)

theorem GainsSound.handOver (i : Slot) : GainsSound (handOver i s) := by
  have hhand : ∀ w v, GainsSound v → GainsSound (handSenseWrite w v) := by
    intro w v hv
    unfold handSenseWrite
    split
    · exact hv
    · exact hv.startQueue _
  unfold Machine.handOver
  dsimp only
  split
  · exact h
  · split
    · exact h.failTile _ _ _
    · split
      · exact h.failTile _ _ _
      · split
        · exact h.failTile _ _ _
        · exact hhand _ _ (h.setSweep _)

theorem GainsSound.endProbeStep (i : Slot) (c : Chan) (e : ProbeEnd) : GainsSound (endProbeStep i c e s) := by
  have hsettle : GainsSound (settleProbe i c e s) := by
    unfold settleProbe
    split
    · exact h
    · split
      · exact h.endSweep _ _
      · split
        · exact .ite h (h.handOver i)
        · exact h.failTile _ _ _
        · exact h.failTile _ _ _
        · exact h
  exact hsettle.completePollPhase

theorem GainsSound.senseReplied (i : Slot) (c : Chan) (r count : Nat) : GainsSound (senseReplied i c r count s) := by
  unfold Machine.senseReplied
  split
  · exact h.setActivity nofun
  · split
    · exact h.setActivity nofun
    · exact (h.setSweep _).setActivity nofun
    · exact h.setActivity nofun

/-! ## Replies and misses -/

theorem GainsSound.missAt (i : Slot) : GainsSound (missAt i s) := h.putTile i ((h.1 i).countMiss _)

theorem GainsSound.answeredAt (i : Slot) : GainsSound (answeredAt i s) :=
  GainsSound.putTile h i (x := (s.tile i).answered) (h.1 i)

theorem GainsSound.pushReplied (i : Slot) {echo : RGB Nat} (he : RGB.within 4095 echo) : GainsSound (pushReplied i echo s) :=
  h.putTile i ((h.1 i).confirm he rfl rfl)

theorem GainsSound.settleSlot (before : State) (i : Slot) : GainsSound (settleSlot before i s) :=
  h.putTile i ((h.1 i).settleTile _ _ _)

theorem GainsSound.settleAll (before : State) : GainsSound (settleAll before s) :=
  h.mapIdxTiles fun _ _ ht => ht.settleTile _ _ _

/-- An arrival moves telemetry, temperature and conditions (R64 to R75). -/
theorem GainsSound.arrival (i : Slot) (temp : Option Int) (fault : Bool) (hours load : Nat) :
    GainsSound (arrival i temp fault hours load s) := by
  have hread : GainsSound (arrivalReading i temp fault hours load s) := GainsSound.putTile h i (x := Tile.setProt _ _) (h.1 i)
  unfold Machine.arrival arrivalSample
  dsimp only
  split <;> exact GainsSound.putTile hread i (x := Tile.setProt _ _) (hread.1 i)

theorem GainsSound.pollReplied (i : Slot) (temp : Option Int) (fault : Bool) (hours load : Nat) {echo : RGB Nat}
    (he : RGB.within 4095 echo) : GainsSound (pollReplied i temp fault hours load echo s) := by
  have hconfirmed : GainsSound (s.putTile i (pollConfirm echo (s.tile i))) := h.putTile i ((h.1 i).confirm he rfl rfl)
  have harrived := hconfirmed.arrival i temp fault hours load
  exact (harrived.putTile i ((harrived.1 i).pollState _)).settleSlot s i

/-! ## Binding and enumeration -/

theorem GainsSound.tryBind (i : Slot) : GainsSound (tryBind i s) := by
  rcases tryBind_cases s i with ⟨k, w, e⟩ | ⟨why, w, e⟩ <;> rw [e]
  · exact h.putTile i ((h.1 i).succeedBinding k w)
  · exact h.putTile i ((h.1 i).failBinding why w)

theorem GainsSound.tryBindAll (p : SlotRec → Bool) (is : List Slot) : GainsSound (is.foldl (tryBindIf p) s) :=
  h.foldl (fun _ _ hu => .ite (hu.tryBind _) hu) is

theorem GainsSound.adoptReplied (i : Slot) (serial : Serial) : GainsSound (adoptReplied i serial s) := by
  have hzero : RGB.within 4095 (RGB.all 0) := RGB.within_all (Nat.zero_le _)
  unfold Machine.adoptReplied
  dsimp only
  split
  · exact h.putTile i (Tile.GainsSound.lostAnswered (t := (s.tile i).setChain
      { (s.tile i).chain with missCount := 0, confirmed := some (RGB.all 0) }) ((h.1 i).confirm hzero rfl rfl) _)
  · exact (h.putTile i (gainsSound_fresh _ rfl (optWithin_some hzero))).tryBind i

theorem GainsSound.endRelearn (v : Verdict) (why : Option Reason) (d : ResultData) : GainsSound (endRelearn v why d s) := by
  rw [endRelearn_frame]
  exact h

theorem GainsSound.bindEnumerated (n : Nat) : GainsSound (bindEnumerated n s) := by
  unfold Machine.bindEnumerated
  exact h.tryBindAll _ _

theorem GainsSound.leaveEnumeration : GainsSound (leaveEnumeration s) := h.setChain nofun

theorem GainsSound.abortEnumeration (n : Nat) : GainsSound (abortEnumeration n s) :=
  (h.bindEnumerated n).leaveEnumeration.endRelearn _ _ _

theorem GainsSound.completeEnumeration (n : Nat) (long : Bool) : GainsSound (completeEnumeration n long s) := by
  have hlong : GainsSound (s.setChain { s.chain with chainLong := long }) := h
  have hbound := (hlong.noticeAll { cond := long }).bindEnumerated 64
  unfold Machine.completeEnumeration
  dsimp only at hbound ⊢
  generalize Machine.bindEnumerated 64 _ = u at hbound ⊢
  exact (hbound.setChain (x := { u.chain with tileCount := n }) hbound.2).leaveEnumeration.endRelearn _ _ _

theorem GainsSound.enumReplied (n : Nat) (serial : Serial) : GainsSound (enumReplied n serial s) := by
  unfold Machine.enumReplied
  split
  · exact h.completeEnumeration _ _
  · rename_i i _
    have htile : GainsSound (notify s (s.putTile i (enumTile s.protSet.lostPolicy serial (s.tile i)))) :=
      h.putTile i ((h.1 i).enumTile _ _)
    exact .ite (htile.abortEnumeration _) (htile.setActivity nofun)

theorem GainsSound.enumUnanswered (n : Nat) : GainsSound (enumUnanswered n s) := by
  have hvacated : GainsSound (vacateFrom n s) := by
    refine h.mapIdxTiles fun i t ht => ?_
    split
    · exact gainsSound_default
    · exact ht
  unfold Machine.enumUnanswered
  split
  · exact h.completeEnumeration _ _
  · exact .ite (h.abortEnumeration n) (hvacated.completeEnumeration _ _)

/-! ## The store -/

theorem GainsSound.completeWrite (w : StoreWrite) : GainsSound (completeWrite w s) := by
  have hresolved : GainsSound (w.op.resolved s) := by
    unfold WriteOp.resolved resolveAfter
    split
    · refine GainsSound.mapTiles (s := w.op.written s) h fun t ht => ?_
      split
      · exact ht.reresolve _
      · exact ht
    · exact h
  have hretried : GainsSound (retryWaiting (w.op.resolved s)) := by
    unfold retryWaiting
    exact hresolved.tryBindAll _ _
  have hbound : GainsSound (w.op.bound s) := hretried.noticeAll _
  have hreport : GainsSound (w.op.report w.issuer s (w.op.bound s)) := by
    unfold WriteOp.report
    split
    case h_1 => exact hbound.reportSense _ _
    case h_2 | h_3 | h_4 | h_5 => exact hbound.finish _ _ _
    case h_6 | h_7 | h_8 | h_9 => exact hbound
  rw [completeWrite_eq]
  exact hreport.startQueue _

/-! ## Time -/

theorem GainsSound.passAuthority (why : LastChange) : GainsSound (passAuthority why s) := by
  rw [passAuthority_frame]
  exact h

theorem GainsSound.expireTimer (q : Prog) : GainsSound (expireTimer q s) :=
  .ite ((h.setAuth _).passAuthority _) (h.setAuth _)

theorem GainsSound.expireRetry (i : Slot) (cls : TimedClass) : GainsSound (expireRetry i cls s) :=
  (h.putProt i _).settleSlot s i

theorem GainsSound.sendEnum0 : GainsSound (sendEnum0 s) := h.setChain nofun

theorem GainsSound.tick : GainsSound (tick s) := by
  have haged : GainsSound s.aged := GainsSound.mapTiles (s := s.setAuth _) (f := Tile.aged) h fun _ ht => ht
  have hlive : ∀ q u, GainsSound u → GainsSound (expireDue q u) := fun q u hu => .ite (hu.expireTimer q) hu
  have hretry : ∀ u x, GainsSound u → GainsSound (retryDue u x) := fun u x hu => .ite (hu.expireRetry _ _) hu
  have hchain : ∀ u, GainsSound u → GainsSound (chainDue u) := fun u hu => .ite hu.sendEnum0 (.ite hu.startRound hu)
  exact .ite h (hchain _ ((hlive _ _ (hlive _ _ haged)).foldl hretry _))

/-! ## Jobs -/

theorem GainsSound.cutSweep (v : Verdict) (why : Option Reason) : GainsSound (cutSweep v why s) := by
  unfold Machine.cutSweep
  split
  · have hwind : GainsSound (s.setChain { s.chain with windDown := true }) := h
    dsimp only
    split
    · exact (hwind.setActivity (a := .patchOff _ _ 0 .discarded) nofun).endSweep _ _
    · exact hwind.endSweep _ _
  · exact h.endSweep _ _

theorem GainsSound.preempt : GainsSound (preempt s) := by
  unfold Machine.preempt
  split
  · exact h.cutSweep _ _
  · exact h
  · exact h

theorem GainsSound.sweepRequest (p : Port) (x : SweepParams) : GainsSound (doSweep p x s) := .ite h h.preempt

theorem GainsSound.relearnRequest (p : Port) (u : Unit) : GainsSound (doRelearn p u s) := by
  have hheld : GainsSound (hold p .relearn ((Machine.preempt s).setToken (.relearn (some p)))) := h.preempt
  exact .ite hheld.sendEnum0 hheld

omit h in
/-- RESTART-CHAIN starts every slot afresh (R189). -/
theorem GainsSound.restartChain (s : State) (p : Port) (u : Unit) : GainsSound (doRestartChain p u s) := by
  have hrestarted : GainsSound (restartEffects s) := by
    rw [restartEffects_eq]
    refine ⟨fun i => ?_, nofun⟩
    rw [tile_of_fill _ rfl i]
    exact gainsSound_default
  exact hrestarted

theorem GainsSound.abort (p : Port) : GainsSound (doAbort p s) := by
  unfold doAbort
  split
  · exact h
  · refine .ite h ?_
    unfold abortRequest
    split
    · exact h
    · exact .ite h (h.endSweep _ _)
    · exact .ite h (h.endRelearn _ _ _)
    · exact h

/-! ## Requests -/

theorem GainsSound.claim (p : Port) (wait : Bool) : GainsSound (doClaim p wait s) := by
  unfold doClaim
  split
  · unfold claimBy
    split
    · exact h
    · exact .ite h (.ite h h)
  · exact h

/-- A change of M re-forms every slot, and may end a sweep (R174, R185). -/
theorem GainsSound.setShow (p : Port) (x : ShowBlock) : GainsSound (doSetShow p x s) := by
  have hm : ∀ old u, GainsSound u → GainsSound (showM old u) := by
    intro old u hu
    have hreformed : GainsSound (reformAll u) := hu.mapTiles fun _ ht => ht.formTile _ _ _
    exact .ite hu (.ite (hreformed.cutSweep _ _) hreformed)
  have hw : ∀ old u, GainsSound u → GainsSound (showWant old u) := fun old u hu => .ite hu hu
  have ht : ∀ old u, GainsSound u → GainsSound (showTimeout old u) := fun old u hu => .ite hu hu
  exact ht _ _ (hw _ _ (hm _ _ (h.setShowRec _)))

theorem GainsSound.freeze (p : Port) (k : Key) : GainsSound (doFreeze p k s) := by
  unfold doFreeze
  split
  · exact h
  · exact .ite h h

theorem GainsSound.thaw (p : Port) (k : Key) : GainsSound (doThaw p k s) := by
  unfold doThaw
  split
  · exact h
  · exact .ite h h

theorem GainsSound.setBudgetRequest (p : Port) (x : BudgetBlock) : GainsSound (doSetBudget p x s) := by
  unfold doSetBudget
  dsimp only
  refine GainsSound.finish (.ite ?_ ?_) _ _ _
  · exact h.setBudget _
  · exact (h.setBudget _).mapTiles fun _ ht => ht.formTile _ _ _

theorem GainsSound.setTrack (p : Port) (x : TrackBlock) : GainsSound (doSetTrack p x s) :=
  .ite (h.putTile x.slot ((h.1 x.slot).trackTile x _ _)) h

theorem GainsSound.setTempRequest (p : Port) (x : TempBlock) : GainsSound (doSetTemp p x s) := by
  refine ⟨fun i => ?_, ?_⟩
  · rw [tile_doSetTemp]
    exact h.1 i
  · rw [doSetTemp_frame]
    exact h.2

theorem GainsSound.setProtect (p : Port) (x : ProtBlock) : GainsSound (doSetProtect p x s) := by
  unfold doSetProtect
  dsimp only
  refine GainsSound.finish (GainsSound.settleAll (GainsSound.mapTiles ?_ fun _ ht => ?_) s) _ _ _
  · exact (h.setProtSet _).setChain h.2
  · exact ht

theorem GainsSound.clearFaults (p : Port) (target : Option Slot) : GainsSound (doClearFaults p target s) := by
  have hcleared : GainsSound (s.setTiles (s.tiles.mapIdx fun i t => if covers s target i then clearTile s.protSet t else t)) := by
    refine h.mapIdxTiles fun i t ht => ?_
    split
    · exact ht.clearTile _
    · exact ht
  exact .ite h ((hcleared.setBudget _).settleAll s)

theorem GainsSound.putProfile (p : Port) (x : PutBlock) : GainsSound (doPutProfile p x s) := by
  have hput : ∀ k, GainsSound (putAt p k x s) := by
    intro k
    unfold putAt
    split <;> exact h
  unfold doPutProfile
  split
  · exact h
  · split
    · split
      · exact h
      · exact hput _
    · exact hput _

end Sys2Proof.Machine
end

section
/-! PROOFS. Every command keeps every gain and coefficient in its range (R94, R96, R107, R114), and the step lemma. -/

namespace Sys2Proof.Machine

variable {s : State}

theorem GainsSound.transaction (h : GainsSound s) {p : Port} {f : State → State} (hf : ∀ u, GainsSound u → GainsSound (f u)) :
    GainsSound (transaction p f s) := by
  refine .ite h (hf _ ?_)
  rw [touch_eq]
  exact h.setAuth _

/-- A POST moves ports and timers beside what its own effect moves (R178, R193). -/
theorem GainsSound.posted {α : Type} (h : GainsSound s) {n : ReqName} {p : Port} {x : Option α} {f : α → State → State}
    (hf : ∀ v u, GainsSound u → GainsSound (f v u)) : GainsSound (posted n p x f s) :=
  posted_keeps s (fun _ _ hu => hu) (fun _ _ hu => hu) hf h

/-- A hard reset starts every slot afresh (R24). -/
theorem gainsSound_underReset (cut : List CutOutcome) (s : State) : GainsSound (underReset cut s) :=
  ⟨fun i => by rw [tile_of_fill _ rfl i]; exact gainsSound_default, nofun⟩

theorem GainsSound.endReset (h : GainsSound s) : GainsSound (endReset s) := ⟨h.1, nofun⟩

/-- Each transaction of a port. -/
theorem GainsSound.of_transactionCommand (h : GainsSound s) (c : Instr) (hc : transactionOn c ≠ none) :
    ∃ t, exec c s = .next t ∧ GainsSound t := by
  cases c with
  | status p | read p kind i0 i1 | result p | discardedTransaction p => exact ⟨_, rfl, h.transaction fun _ hu => hu⟩
  | abort p => exact ⟨_, rfl, h.transaction fun _ hu => hu.abort p⟩
  | claim p b => exact ⟨_, rfl, h.posted fun v _ hu => hu.claim p v⟩
  | release p b => exact ⟨_, rfl, h.posted fun _ _ hu => (hu.passAuthority .release).finish _ _ _⟩
  | setShow p b => exact ⟨_, rfl, h.posted fun v _ hu => hu.setShow p v⟩
  | freeze p b => exact ⟨_, rfl, h.posted fun v _ hu => hu.freeze p v⟩
  | thaw p b => exact ⟨_, rfl, h.posted fun v _ hu => hu.thaw p v⟩
  | setBudget p b => exact ⟨_, rfl, h.posted fun v _ hu => hu.setBudgetRequest p v⟩
  | putProfile p b => exact ⟨_, rfl, h.posted fun v _ hu => hu.putProfile p v⟩
  | dropProfile p b => exact ⟨_, rfl, h.posted fun _ _ hu => .ite hu (.ite hu (.ite hu hu))⟩
  | putMap p b => exact ⟨_, rfl, h.posted fun _ _ hu => .ite hu (.ite hu hu)⟩
  | clearMap p b => exact ⟨_, rfl, h.posted fun _ _ hu => .ite hu hu⟩
  | setTrack p b => exact ⟨_, rfl, h.posted fun v _ hu => hu.setTrack p v⟩
  | setSlew p b => exact ⟨_, rfl, h.posted fun _ _ hu => hu⟩
  | setTemp p b => exact ⟨_, rfl, h.posted fun v _ hu => hu.setTempRequest p v⟩
  | setProtect p b => exact ⟨_, rfl, h.posted fun v _ hu => hu.setProtect p v⟩
  | clearFaults p b => exact ⟨_, rfl, h.posted fun v _ hu => hu.clearFaults p v⟩
  | sweep p b => exact ⟨_, rfl, h.posted fun v _ hu => hu.sweepRequest p v⟩
  | relearn p b => exact ⟨_, rfl, h.posted fun v _ hu => hu.relearnRequest p v⟩
  | restartChain p b => exact ⟨_, rfl, h.posted fun v u _ => .restartChain u p v⟩
  | setNotice p b => exact ⟨_, rfl, h.posted fun _ _ hu => hu⟩
  | unknownRequestPost p code b => exact ⟨_, rfl, .ite h (h.transaction fun _ hu => .ite hu hu)⟩
  | _ => exact absurd rfl hc

/-- An event keeps what its effect keeps. -/
theorem GainsSound.event {f : State → State} (h : GainsSound (f s)) : GainsSound (event f s) := h.noticeAll _

/-- Each reply, window expiry, timer, start, store-write completion and reset. -/
theorem GainsSound.of_chainCommand (h : GainsSound s) (c : Instr) (hc : transactionOn c = none) :
    ∃ t, exec c s = .next t ∧ GainsSound t := by
  cases c with
  | hardReset cause cut =>
    cases cause with
    | powerUp => exact ⟨_, rfl, (gainsSound_underReset cut s).endReset⟩
    | resetnLow => exact ⟨_, rfl, gainsSound_underReset cut s⟩
  | resetnRelease => exact ⟨_, rfl, .ite h.endReset h⟩
  | roundStart => exact ⟨_, rfl, .ite (GainsSound.event h.startRound) h⟩
  | relearnEnumerationStart => exact ⟨_, rfl, .ite h.sendEnum0 h⟩
  | livenessTimerExpiry q => exact ⟨_, rfl, .ite (GainsSound.event (h.expireTimer q)) h⟩
  | retryTimerExpiry i cls => exact ⟨_, rfl, .ite (GainsSound.event (h.expireRetry i cls)) h⟩
  | pollReply temp fault hours load echo =>
    refine ⟨_, rfl, ?_⟩
    split
    · split
      · rename_i i _ hok
        have hecho : coefFieldOk echo = true := (Bool.and_eq_true _ _ ▸ hok : _ ∧ _).2
        exact GainsSound.event ((h.pollReplied i temp fault hours load (within_of_coefFieldOk hecho)).pollFrom _)
      · exact h
    · exact h
  | pushReply echo =>
    refine ⟨_, rfl, ?_⟩
    split
    · split
      · rename_i hok
        exact GainsSound.event ((h.pushReplied _ (within_of_coefFieldOk hok)).pushFrom _)
      · exact h
    · exact h
  | pollMiss =>
    refine ⟨_, rfl, ?_⟩
    split
    · exact GainsSound.event ((h.missAt _).pollFrom _)
    · exact h
  | pushMiss =>
    refine ⟨_, rfl, ?_⟩
    split
    · exact GainsSound.event ((h.missAt _).pushFrom _)
    · exact h
  | adoptReply serial =>
    refine ⟨_, rfl, ?_⟩
    split
    · exact GainsSound.event ((h.adoptReplied _ serial).probePhase)
    · exact h
  | adoptNoReply =>
    refine ⟨_, rfl, ?_⟩
    split
    · exact GainsSound.event h.probePhase
    · exact h
  | enumReply serial =>
    refine ⟨_, rfl, ?_⟩
    split
    · exact GainsSound.event (h.enumReplied _ serial)
    · exact h
  | enumNoReply =>
    refine ⟨_, rfl, ?_⟩
    split
    · exact GainsSound.event (h.enumUnanswered _)
    · exact h
  | patchReply =>
    refine ⟨_, rfl, ?_⟩
    split
    · rename_i i _ _
      have hanswered := h.answeredAt i
      exact GainsSound.event (.ite (hanswered.setActivity nofun) (hanswered.setActivity nofun))
    · exact GainsSound.event ((h.answeredAt _).endProbeStep _ _ _)
    · exact h
  | patchMiss =>
    refine ⟨_, rfl, ?_⟩
    split
    · exact GainsSound.event ((h.missAt _).setActivity nofun)
    · exact GainsSound.event ((h.missAt _).endProbeStep _ _ _)
    · exact h
  | settleWaitEnd =>
    refine ⟨_, rfl, ?_⟩
    split
    · exact .ite (h.setActivity nofun) (h.setActivity nofun)
    · exact h
  | senseReply status count =>
    refine ⟨_, rfl, ?_⟩
    split
    · exact .ite (GainsSound.event ((h.answeredAt _).senseReplied _ _ _ _)) h
    · exact h
  | senseMiss =>
    refine ⟨_, rfl, ?_⟩
    split
    · exact GainsSound.event ((h.missAt _).setActivity nofun)
    · exact h
  | storeWriteComplete =>
    refine ⟨_, rfl, ?_⟩
    split
    · exact GainsSound.event (h.completeWrite _)
    · exact h
  | _ => simp [transactionOn] at hc

theorem exec_gainsSound (h : GainsSound s) (c : Instr) : ∃ t, exec c s = .next t ∧ GainsSound t := by
  by_cases hc : transactionOn c = none
  · exact h.of_chainCommand c hc
  · exact h.of_transactionCommand c hc

end Sys2Proof.Machine

open Sys2Proof Sys2Proof.Machine

/-- Settles O54: what forms coefficients, gives gains or takes them from outside bounds them, and all else leaves them or starts
the slot afresh. -/
theorem stepKeepsGainsAndCoefficients : Obligations.StepKeepsGainsAndCoefficients := by
  intro s t hcoef hgain hstep
  have h : GainsSound s := (gainsSound_iff s).mpr ⟨hcoef, hgain⟩
  refine (gainsSound_iff t).mp ?_
  unfold step at hstep
  split at hstep
  · rename_i c rest _
    obtain ⟨u, hu, hsound⟩ := exec_gainsSound (s := s.setPending rest) h c
    rw [hu] at hstep
    cases hstep
    exact hsound
  · cases hstep
    exact h.tick

end

section
/-! PROOFS. A recomputation tile by tile (R80 to R98): what each group of its stages makes of a slot, and where a completed poll phase
shows it. -/

namespace Sys2Proof.Machine

/-! ## Stages 1 to 5 -/

section Stages

variable (number : Nat) (floors : RGB Nat) (report : Bool) (x : SlewSettings) (target : RGB Nat) {t : Tile}

theorem Tile.active_of_computes (h : t.computes = true) : t.chain.state = .active := by
  rw [Tile.computes, Bool.and_eq_true, beq_iff_eq] at h
  exact h.1

/-- A tile computes where it is ACTIVE in MODEL or SENSED mode (R82). -/
theorem Tile.computes_iff : t.computes = true ↔ t.chain.state = .active ∧ (t.mode = some .model ∨ t.mode = some .sensed) := by
  rw [Tile.computes, Bool.and_eq_true, Bool.or_eq_true, beq_iff_eq, beq_iff_eq, beq_iff_eq]

theorem stagesTo5_of_computes (h : t.computes = true) : stagesTo5 number floors report t = judgeShort report
    (t.setEng (computeStages number floors t.held.groups (t.mode.getD .model) t.temp.teff t.eng)) := by
  simp only [stagesTo5, Tile.active_of_computes h, h, if_true]

theorem stagesTo5_of_uncomputed (h : t.computes = false) (hf : t.chain.state = .active ∨ t.chain.state = .unprofiled) :
    stagesTo5 number floors report t = judgeShort report (t.setEng t.eng.uncomputed) := by
  rcases hf with hf | hf <;> simp [stagesTo5, hf, h]

theorem stagesTo5_of_joining (h : t.chain.state = .joining) : stagesTo5 number floors report t
    = judgeShort report (t.setChain { t.chain with pending := none }) := by
  simp only [stagesTo5, h]

theorem stagesTo5_of_lost (h : t.chain.state = .lost) : stagesTo5 number floors report t
    = t.setEng { t.eng with contributing := false } := by
  simp only [stagesTo5, h]

/-- Stages 1 to 5 of a slot that takes coefficients move its engine record and SHORT alone. -/
theorem stagesTo5_of_formed (h : t.chain.state = .active ∨ t.chain.state = .unprofiled) :
    ∃ y, stagesTo5 number floors report t = judgeShort report (t.setEng y) := by
  cases hc : t.computes with
  | true => exact ⟨_, stagesTo5_of_computes number floors report hc⟩
  | false => exact ⟨_, stagesTo5_of_uncomputed number floors report hc h⟩

/-- Stages 1 to 5 leave a slot's state, profile and slew record. -/
theorem stagesTo5_frame (t : Tile) : (stagesTo5 number floors report t).chain.state = t.chain.state
    ∧ (stagesTo5 number floors report t).held = t.held ∧ (stagesTo5 number floors report t).slew = t.slew := by
  unfold stagesTo5
  split
  case h_5 => split <;> exact ⟨rfl, rfl, rfl⟩
  all_goals exact ⟨rfl, rfl, rfl⟩

theorem stagesTo5_computes (t : Tile) : (stagesTo5 number floors report t).computes = t.computes := by
  obtain ⟨hstate, hheld, hslew⟩ := stagesTo5_frame number floors report t
  unfold Tile.computes Tile.mode
  rw [hstate, hheld, hslew]

/-! ## Stages 8 and 9 -/

/-- Stages 8 and 9 write target gains and the slew record alone (R94, R113). -/
theorem stages8And9_frame (t : Tile) : stages8And9 x target t = { t with
    eng := { t.eng with gt := (stages8And9 x target t).eng.gt }, slew := (stages8And9 x target t).slew } := by
  unfold stages8And9
  split
  · split
    · rfl
    · split <;> rfl
  all_goals rfl

theorem stages8And9_gt (h : t.computes = true) :
    (stages8And9 x target t).eng.gt = some (target.zip targetGain (t.eng.e.getD (RGB.all 0))) := by
  have hfixed : t.mode ≠ some .fixed := by
    rcases (Tile.computes_iff.mp h).2 with hm | hm <;> (rw [hm]; decide)
  simp only [stages8And9, Tile.active_of_computes h, hfixed, h, if_true, if_false]
  rfl

/-- Slots that take no gain leave stages 8 and 9 as they came. -/
theorem stages8And9_of_gainless (h : t.chain.state = .joining ∨ t.chain.state = .lost) : stages8And9 x target t = t := by
  rcases h with h | h <;> simp only [stages8And9, h]

end Stages

/-! ## A slot through the recomputation -/

/-- A slot of `s` after stage 5 of a recomputation. -/
def State.stage5 (s : State) (i : Slot) : Tile :=
  stagesTo5 (nextCount s.wall.number) (s.showRec.want.map (floorOf s.showRec.floorRatio)) s.protSet.shortReport (s.tile i)

/-- A slot of `s` after stage 9 of a recomputation. -/
def State.stage9 (s : State) (i : Slot) : Tile := stages8And9 s.slewSet (recompute s).wall.target (s.stage5 i)

variable (s : State) (i : Slot)

theorem tile_recompute_stage9 : (recompute s).tile i
    = formTile .recompute s.showRec.m (recompute s).budget.sb (noteTerm s.showRec.m (s.stage9 i)) := tile_recompute s i

theorem stage9_frame : s.stage9 i = { s.stage5 i with
    eng := { (s.stage5 i).eng with gt := (s.stage9 i).eng.gt }, slew := (s.stage9 i).slew } := stages8And9_frame _ _ _

/-- A formation leaves of an engine record all but what it notes of itself (R83). -/
theorem formTile_eng (b : FormedBy) (m sb : Nat) (t : Tile) : (formTile b m sb t).eng = { t.eng with
    gainsUsed := (formTile b m sb t).eng.gainsUsed, mUsed := (formTile b m sb t).eng.mUsed
    pUsed := (formTile b m sb t).eng.pUsed, sbUsed := (formTile b m sb t).eng.sbUsed
    formedBy := (formTile b m sb t).eng.formedBy } := by
  rcases formTile_cases b m sb t with ⟨_, h⟩ | ⟨g, _, h⟩ <;> rw [h]

/-- The capacities, their factors and the contributing flag are those of stage 5, the target gains and the power term those that the
later stages give. -/
theorem eng_recompute : ((recompute s).tile i).eng.fth = (s.stage5 i).eng.fth
    ∧ ((recompute s).tile i).eng.fag = (s.stage5 i).eng.fag ∧ ((recompute s).tile i).eng.e = (s.stage5 i).eng.e
    ∧ ((recompute s).tile i).eng.contributing = (s.stage5 i).eng.contributing
    ∧ ((recompute s).tile i).eng.gt = (s.stage9 i).eng.gt
    ∧ ((recompute s).tile i).eng.powerTerm = termOf s.showRec.m (s.stage9 i) := by
  rw [tile_recompute_stage9, formTile_eng, noteTerm, stage9_frame]
  exact ⟨rfl, rfl, rfl, rfl, rfl, rfl⟩

theorem prot_recompute : ((recompute s).tile i).prot = (s.stage5 i).prot := by
  rw [tile_recompute_stage9, formTile_prot, noteTerm, stage9_frame]
  rfl

theorem slew_recompute : ((recompute s).tile i).slew = (s.stage9 i).slew := by
  rw [tile_recompute_stage9, formTile_slew]
  rfl

/-- A tile is in the contributing set after a recomputation as stages 1 to 5 have judged it (R89). -/
theorem contributes_recompute : Contributes ((recompute s).tile i)
    ↔ (s.stage5 i).computes = true ∧ (s.stage5 i).eng.contributing = true := by
  obtain ⟨hheld, _, hchain, _, hoverride, _⟩ := tile_recompute_frame s i
  have hmode : ((recompute s).tile i).mode = (s.tile i).mode := by
    unfold Tile.mode
    rw [hheld, hoverride]
  obtain ⟨_, _, _, hcontributing, _⟩ := eng_recompute s i
  have hcomputes : (s.stage5 i).computes = (s.tile i).computes := stagesTo5_computes _ _ _ _
  unfold Contributes
  rw [hmode, hchain.state, hcontributing, hcomputes, Tile.computes_iff, and_assoc]

/-! ## Where a completed poll phase shows it -/

variable {s} {k : Slot}

/-- An ADOPT with no reply ends the poll phase where no sweep is RUNNING, and the recomputation's tiles, wall record and budget unit
stand after it (R4, R80). -/
theorem exec_adoptNoReply (ha : s.chain.activity = .adopt k) (hr : s.sweep.state ≠ .running) :
    ∃ t, exec .adoptNoReply s = .next t ∧ (∀ i, t.tile i = (recompute s).tile i) ∧ t.wall = (recompute s).wall
      ∧ t.budget = (recompute s).budget := by
  have hphase : probePhase s = completePollPhase s := if_neg hr
  have hexec : exec .adoptNoReply s = .next (notify s (completePollPhase s)) := by
    show execAdoptNoReply s = _
    simp only [execAdoptNoReply, ha, event, hphase]
  obtain ⟨a, _, hframe⟩ := completePollPhase_frame s
  refine ⟨_, hexec, ?_⟩
  rw [hframe]
  exact ⟨fun _ => rfl, rfl, rfl⟩

end Sys2Proof.Machine
end

section
/-! PROOFS. Capacities and target gains (R1, R84 to R90, R94): the division to nearest, the factors and the capacity it makes, and the
contributing test. -/

namespace Sys2Proof.Machine

/-! ## Division to nearest -/

theorem divNear_of_nonneg {n : Int} (d : Nat) (h : 0 ≤ n) : divNear n d = ((2 * n.toNat + d) / (2 * d) : Nat) := if_pos h

/-- The part's division to nearest is that of R1. -/
theorem nearest_divNear (n : Int) {d : Nat} (hd : 0 < d) : Nearest n d (divNear n d) := by
  have hround : ∀ m : Nat, Nearest m d ((2 * m + d) / (2 * d) : Nat) := by
    intro m
    have hsum := Nat.div_add_mod (2 * m + d) (2 * d)
    have hlt := Nat.mod_lt (2 * m + d) (show 0 < 2 * d by omega)
    generalize (2 * m + d) / (2 * d) = q at hsum ⊢
    generalize (2 * m + d) % (2 * d) = r at hsum hlt
    have hmul : 2 * d * q = 2 * (q * d) := by ring
    rw [hmul] at hsum
    unfold Nearest
    rw [Int.natAbs_natCast, Int.natAbs_natCast, ← Nat.cast_mul]
    generalize q * d = z at hsum ⊢
    omega
  by_cases h : 0 ≤ n
  · obtain ⟨m, rfl⟩ := Int.eq_ofNat_of_zero_le h
    exact divNear_of_nonneg d h ▸ hround m
  · obtain ⟨m, hm⟩ := Int.eq_ofNat_of_zero_le (show 0 ≤ -n by omega)
    obtain rfl : n = -m := by omega
    have hneg : divNear (-m) d = -((2 * m + d) / (2 * d) : Nat) := by
      rw [divNear, if_neg h, neg_neg, Int.toNat_natCast]
    have hmirror := hround m
    unfold Nearest at hmirror ⊢
    rw [hneg, Int.natAbs_neg, Int.natAbs_neg, neg_mul, ← neg_sub_neg, neg_neg, ← Int.natAbs_neg (_ - _)]
    simpa [neg_sub, neg_add_eq_sub] using hmirror

theorem divNear_nonneg {n : Int} (d : Nat) (h : 0 ≤ n) : 0 ≤ divNear n d := by
  rw [divNear_of_nonneg d h]
  exact Int.natCast_nonneg _

/-! ## The factors and the capacity -/

/-- The thermal factor is the rounded one, held within 2048..4505 (R85). -/
theorem thermalFactor_spec (k : Nat) (delta : Int) : ∃ q, Nearest (k * delta * 4096) 10000 q
    ∧ (thermalFactor k delta : Int) = max 2048 (min 4505 (4096 - q)) := by
  refine ⟨_, nearest_divNear _ (by decide), ?_⟩
  unfold thermalFactor
  rw [clampInt_eq _ (by decide)]
  omega

/-- The ageing factor is the rounded one, held at or above 2048 (R86); it does not pass 4096. -/
theorem ageingFactor_spec (a hs : Nat) : ∃ q, Nearest (a * hs * 4096) 10000000 q
    ∧ (ageingFactor a hs : Int) = max 2048 (4096 - q) := by
  have hq := divNear_nonneg 10000000 (show (0 : Int) ≤ (a * hs * 4096 : Nat) by omega)
  refine ⟨divNear (a * hs * 4096 : Nat) 10000000, ?_, ?_⟩
  · have := nearest_divNear (a * hs * 4096 : Nat) (show 0 < 10000000 by decide)
    exact_mod_cast this
  · unfold ageingFactor
    rw [clampInt_eq _ (by decide)]
    omega

/-- The capacity is the product of reference and factors, rounded (R87). -/
theorem capacity_spec (lum fth fag : Nat) : Nearest (lum * fth * fag) 16777216 (capacity lum fth fag) := by
  have hq := divNear_nonneg 16777216 (show (0 : Int) ≤ (lum * fth * fag : Nat) by omega)
  have hn := nearest_divNear (lum * fth * fag : Nat) (show 0 < 16777216 by decide)
  unfold capacity
  rw [Int.toNat_of_nonneg hq]
  exact_mod_cast hn

/-! ## The contributing test -/

/-- A tile contributes where each of its capacities is above 0 and reaches the channel's floor (R88, R89). -/
theorem failingChans_isEmpty_iff {e floors : RGB Nat} :
    (failingChans e floors).isEmpty = true ↔ ∀ c, 0 < e.get c ∧ floors.get c ≤ e.get c := by
  have hpass : ∀ c, passes (e.get c) (floors.get c) = true ↔ 0 < e.get c ∧ floors.get c ≤ e.get c := fun c => by
    rw [passes, Bool.and_eq_true, decide_eq_true_eq, decide_eq_true_eq]
  have hmem : ∀ c : Chan, c ∈ Chan.order := fun c => by cases c <;> decide
  unfold failingChans
  rw [List.isEmpty_iff, List.filter_eq_nil_iff]
  refine ⟨fun h c => (hpass c).mp ?_, fun h c _ => ?_⟩
  · simpa using h c (hmem c)
  · simpa using (hpass c).mpr (h c)

/-- A judgement of SHORT leaves the condition as the result is, whether or not it is reported (R129). -/
theorem cond_judge (report now : Bool) (x : Cond) : (x.judge report now).cond = now := by
  unfold Cond.judge
  split
  · cases report <;> rfl
  · assumption
  · rfl
  · assumption

theorem short_judgeShort (report : Bool) (t : Tile) : (judgeShort report t).prot.short.cond = shortFails t := cond_judge _ _ _

/-! ## A computing tile -/

/-- The references of a computing tile are those that its mode picks (R84). -/
theorem PickedReference.reference {t : Tile} {w : Working} {lum : RGB Nat} {tref : Int} {href : Nat}
    (h : PickedReference t w lum tref href) : (t.mode = some .model ∨ t.mode = some .sensed)
      ∧ ∃ refs absent, reference w (t.mode.getD .model) = ⟨refs, absent, lum, tref, href⟩ := by
  rcases h with ⟨hm, hs⟩ | ⟨hm | ⟨hm, hs⟩, hl, rfl⟩
  · exact ⟨.inr hm, .sensed, false, by simp only [hm, Option.getD_some, Machine.reference, hs]⟩
  · exact ⟨.inl hm, .model, false, by simp only [hm, Option.getD_some, Machine.reference, modelReference, hl]⟩
  · exact ⟨.inr hm, .model, true, by simp only [hm, Option.getD_some, Machine.reference, hs, modelReference, hl]⟩

section Computed

variable {t : Tile} {w : Working} {lum : RGB Nat} {tref : Int} {href : Nat}

/-- The thermal factors of a computing tile (R85): from its change from the reference temperature, which is 0 without a Teff. -/
def thermalFactors (t : Tile) (w : Working) (tref : Int) : RGB Nat :=
  w.thermal.map fun k => thermalFactor k ((t.temp.teff.map (· - tref)).getD 0)

/-- The ageing factors of a computing tile (R86): from its lit hours beyond the reference hours. -/
def ageingFactors (t : Tile) (w : Working) (href : Nat) : RGB Nat :=
  w.ageing.map fun a => ageingFactor a (t.eng.hours.getD 0 - href)

/-- The capacities of a computing tile (R87). -/
def capacities (t : Tile) (w : Working) (lum : RGB Nat) (tref : Int) (href : Nat) : RGB Nat :=
  (lum.zip capacity (thermalFactors t w tref)).zip (fun f => f) (ageingFactors t w href)

theorem get_capacities (c : Chan) : (capacities t w lum tref href).get c
    = capacity (lum.get c) ((thermalFactors t w tref).get c) ((ageingFactors t w href).get c) := by
  rw [capacities, RGB.get_zip, RGB.get_zip]

/-- What stages 1 to 5 note of a computing tile (R84 to R89). -/
theorem computeStages_spec (h : PickedReference t w lum tref href) (number : Nat) (floors : RGB Nat) :
    (computeStages number floors w (t.mode.getD .model) t.temp.teff t.eng).fth = some (thermalFactors t w tref)
    ∧ (computeStages number floors w (t.mode.getD .model) t.temp.teff t.eng).fag = some (ageingFactors t w href)
    ∧ (computeStages number floors w (t.mode.getD .model) t.temp.teff t.eng).e = some (capacities t w lum tref href)
    ∧ (computeStages number floors w (t.mode.getD .model) t.temp.teff t.eng).contributing
      = (failingChans (capacities t w lum tref href) floors).isEmpty := by
  obtain ⟨_, _, _, hreference⟩ := h.reference
  cases hteff : t.temp.teff with
  | none =>
    simp only [computeStages, hreference, hteff, capacities, RGB.zip, thermalFactors, ageingFactors, Option.map_none,
      Option.getD_none, and_self]
  | some v =>
    simp only [computeStages, hreference, hteff, capacities, RGB.zip, thermalFactors, ageingFactors, Option.map_some,
      Option.getD_some, and_self]

end Computed

end Sys2Proof.Machine

open Sys2Proof Sys2Proof.Machine

/-- Settles O47: stages 1 to 5 give the tile its factors and capacities, judge it and SHORT with it, and stage 8 gives its target
gains from Target. -/
theorem capacityAndTargetGain : Obligations.CapacityAndTargetGain := by
  intro k i s w lum tref href ha hr hactive hheld hpick
  obtain ⟨t, ht, htile, hwall, _⟩ := exec_adoptNoReply ha hr
  obtain ⟨hmode, _⟩ := hpick.reference
  have hcomputes : (s.tile i).computes = true := Tile.computes_iff.mpr ⟨hactive, hmode⟩
  have hgroups : (s.tile i).held.groups = w := by rw [hheld]; rfl
  have hstage5 := stagesTo5_of_computes (nextCount s.wall.number) (s.showRec.want.map (floorOf s.showRec.floorRatio))
    s.protSet.shortReport hcomputes
  have hcomputes5 : (s.stage5 i).computes = true := (stagesTo5_computes _ _ _ _).trans hcomputes
  obtain ⟨hfth, hfag, he, hcontributing⟩ := computeStages_spec hpick (nextCount s.wall.number)
    (s.showRec.want.map (floorOf s.showRec.floorRatio))
  rw [hgroups] at hstage5
  have heng : (s.stage5 i).eng = computeStages (nextCount s.wall.number) (s.showRec.want.map (floorOf s.showRec.floorRatio)) w
      ((s.tile i).mode.getD .model) (s.tile i).temp.teff (s.tile i).eng := congrArg Tile.eng hstage5
  rw [← heng] at hfth hfag he hcontributing
  obtain ⟨rfth, rfag, re, rcontributing, rgt, _⟩ := eng_recompute s i
  have hgt : (s.stage9 i).eng.gt = some ((recompute s).wall.target.zip targetGain (capacities (s.tile i) w lum tref href)) := by
    rw [State.stage9, stages8And9_gt _ _ hcomputes5, he]
    rfl
  refine ⟨t, capacities (s.tile i) w lum tref href, thermalFactors (s.tile i) w tref, ageingFactors (s.tile i) w href,
    (recompute s).wall.target.zip targetGain (capacities (s.tile i) w lum tref href), ht,
    ?_, ?_, ?_, ?_, fun c => ⟨?_, ?_, ?_, fun h0 => ?_, fun hpos => ?_⟩, ?_, ?_⟩
  · rw [htile, rfth, hfth]
  · rw [htile, rfag, hfag]
  · rw [htile, re, he]
  · rw [htile, rgt, hgt]
  · rw [thermalFactors, RGB.get_map]
    exact thermalFactor_spec _ _
  · rw [ageingFactors, RGB.get_map]
    exact ageingFactor_spec _ _
  · rw [get_capacities]
    exact capacity_spec _ _ _
  · rw [RGB.get_zip, targetGain, if_pos h0]
  · rw [RGB.get_zip, targetGain, if_neg (by omega), hwall]
  · rw [htile, rcontributing, hcontributing, failingChans_isEmpty_iff]
    simp only [RGB.get_map, floorOf]
  · rw [htile, prot_recompute, rcontributing]
    have hshort : (s.stage5 i).prot.short.cond = shortFails (s.stage5 i) := by
      conv_lhs => rw [State.stage5, hstage5, short_judgeShort]
      rw [State.stage5, hstage5]
      rfl
    rw [hshort, shortFails, hcomputes5, Bool.true_and]

end

section
/-! PROOFS. The common white (R91, R92): the least capacity of each channel over the contributing tiles, and the Target that it
allows. -/

namespace Sys2Proof.Machine

/-! ## The contributing set -/

/-- The contributing tiles with their capacities (R89). -/
theorem mem_contributors {tiles : Table Tile 64} {i : Slot} {e : RGB Nat} : (i, e) ∈ contributors tiles
    ↔ (tiles.get i).computes = true ∧ (tiles.get i).eng.contributing = true ∧ (tiles.get i).eng.e = some e := by
  unfold contributors
  rw [List.mem_filterMap]
  constructor
  · rintro ⟨⟨j, u⟩, hmem, h⟩
    dsimp only at h
    split at h
    · rename_i hc
      obtain ⟨v, hv, heq⟩ := Option.map_eq_some_iff.mp h
      obtain ⟨rfl, rfl⟩ := Prod.mk.inj heq
      rw [(Table.mem_entries _ _ _).mp hmem]
      rw [Bool.and_eq_true] at hc
      exact ⟨hc.1, hc.2, hv⟩
    · cases h
  · rintro ⟨hcomputes, hcontributing, he⟩
    exact ⟨(i, tiles.get i), (Table.mem_entries _ _ _).mpr rfl, by simp [hcomputes, hcontributing, he]⟩

/-! ## Least capacities -/

/-- The least of a list that is not empty is one of its numbers and at most each of them. -/
theorem leastOf_spec {xs : List Nat} (h : xs ≠ []) : ∃ m ∈ xs, leastOf xs = some m ∧ ∀ x ∈ xs, m ≤ x := by
  induction xs with
  | nil => exact absurd rfl h
  | cons x xs ih =>
    by_cases hxs : xs = []
    · subst hxs
      exact ⟨x, by simp, rfl, by simp⟩
    · obtain ⟨m, hm, heq, hle⟩ := ih hxs
      refine ⟨min x m, ?_, by simp only [leastOf, heq], fun y hy => ?_⟩
      · rcases min_choice x m with e | e <;> rw [e]
        · exact List.mem_cons_self
        · exact List.mem_cons_of_mem _ hm
      · rcases List.mem_cons.mp hy with rfl | hy
        · exact min_le_left _ _
        · exact (min_le_right _ _).trans (hle y hy)

/-- The least capacity of a channel is that of some contributing tile, and no other has less (R91). -/
theorem minCapacity_spec {cs : List (Slot × RGB Nat)} (h : cs ≠ []) (c : Chan) :
    (∃ x ∈ cs, x.2.get c = minCapacity cs c) ∧ ∀ x ∈ cs, minCapacity cs c ≤ x.2.get c := by
  obtain ⟨m, hm, heq, hle⟩ := leastOf_spec (xs := cs.map fun x => x.2.get c) (by simpa using h)
  have hmin : minCapacity cs c = m := by rw [minCapacity, heq, Option.getD_some]
  rw [hmin]
  exact ⟨List.mem_map.mp hm, fun x hx => hle _ (List.mem_map_of_mem hx)⟩

/-- The least capacities of the three channels. -/
def minCapacities (cs : List (Slot × RGB Nat)) : RGB Nat := ⟨minCapacity cs .r, minCapacity cs .g, minCapacity cs .b⟩

theorem get_minCapacities (cs : List (Slot × RGB Nat)) (c : Chan) : (minCapacities cs).get c = minCapacity cs c := by
  cases c <;> rfl

/-! ## The scale and Target -/

/-- The scale s over the least capacities `m` (R91). -/
def commonScale (m want : RGB Nat) : Nat :=
  min 4096 (min (m.r * 4096 / want.r) (min (m.g * 4096 / want.g) (m.b * 4096 / want.b)))

theorem commonScale_le (m want : RGB Nat) (c : Chan) : commonScale m want ≤ scaleOf (m.get c) (want.get c) := by
  unfold commonScale scaleOf
  cases c <;> simp only [RGB.get] <;> omega

/-- A scale of at most a channel's own keeps its Target within its least capacity (R91, R92). -/
theorem targetOf_le {want m s : Nat} (h : s ≤ scaleOf m want) : targetOf want s ≤ m := by
  have hmul : want * s ≤ m * 4096 := calc
    want * s ≤ want * (m * 4096 / want) := Nat.mul_le_mul_left _ h
    _ ≤ m * 4096 := Nat.mul_div_le _ _
  unfold targetOf
  omega

/-! ## The wall record -/

section Wall

variable {sh : ShowRec} {floors : RGB Nat} {tiles : Table Tile 64} {w : WallRec}

/-- Whatever contributes, the wall record notes the Want and floor ratio in use, and Target is Want at scale s (R92, R102). -/
theorem wallStages_spec (sh : ShowRec) (floors : RGB Nat) (tiles : Table Tile 64) (w : WallRec) :
    (wallStages sh floors tiles w).wantInUse = sh.want ∧ (wallStages sh floors tiles w).floorRatioInUse = sh.floorRatio
      ∧ (wallStages sh floors tiles w).target = sh.want.map fun x => targetOf x (wallStages sh floors tiles w).s := by
  unfold wallStages
  dsimp only
  split <;> exact ⟨rfl, rfl, rfl⟩

/-- With no contributing tile s is 4096, and no capacity limits it (R91, R102). -/
theorem wallStages_of_none (h : contributors tiles = []) : (wallStages sh floors tiles w).s = 4096
    ∧ (wallStages sh floors tiles w).minE = none ∧ (wallStages sh floors tiles w).scales = none
    ∧ (wallStages sh floors tiles w).limiting = none ∧ (wallStages sh floors tiles w).limitingSlots = none
    ∧ (wallStages sh floors tiles w).contributing = 0 := by
  unfold wallStages
  rw [h]
  exact ⟨rfl, rfl, rfl, rfl, rfl, rfl⟩

/-- With contributing tiles s is the scale that their least capacities allow (R91). -/
theorem wallStages_of_some (h : contributors tiles ≠ []) :
    (wallStages sh floors tiles w).minE = some (minCapacities (contributors tiles))
      ∧ (wallStages sh floors tiles w).s = commonScale (minCapacities (contributors tiles)) sh.want := by
  have hne : ¬(contributors tiles).isEmpty = true := by rwa [List.isEmpty_iff]
  unfold wallStages
  dsimp only
  rw [if_neg hne]
  exact ⟨rfl, rfl⟩

end Wall

/-! ## After a recomputation -/

variable (s : State)

/-- The contributing tiles of a recomputation, from which its Target is taken. -/
def State.contributing (s : State) : List (Slot × RGB Nat) :=
  contributors (s.tiles.map
    (stagesTo5 (nextCount s.wall.number) (s.showRec.want.map (floorOf s.showRec.floorRatio)) s.protSet.shortReport))

/-- Those tiles are the ones that the part shows as contributing after the recomputation. -/
theorem mem_contributing {i : Slot} {e : RGB Nat} :
    (i, e) ∈ s.contributing ↔ Contributes ((recompute s).tile i) ∧ ((recompute s).tile i).eng.e = some e := by
  obtain ⟨_, _, he, _⟩ := eng_recompute s i
  rw [State.contributing, mem_contributors, Table.get_map, contributes_recompute, he, and_assoc]
  rfl

/-- A contributing tile has capacities, as every computing one has (R87). -/
theorem Contributes.capacities {s : State} {i : Slot} (h : Contributes ((recompute s).tile i)) : ∃ e, (i, e) ∈ s.contributing := by
  obtain ⟨hcomputes, _⟩ := (contributes_recompute s i).mp h
  have htile : (s.tile i).computes = true := (stagesTo5_computes _ _ _ _).symm.trans hcomputes
  obtain ⟨_, _, he, _⟩ := eng_recompute s i
  have hsome : ∃ e, (s.stage5 i).eng.e = some e := by
    rw [State.stage5, stagesTo5_of_computes _ _ _ htile]
    exact ⟨_, rfl⟩
  obtain ⟨e, hsome⟩ := hsome
  exact ⟨e, (mem_contributing s).mpr ⟨h, he.trans hsome⟩⟩

theorem contributing_eq_nil_iff : s.contributing = [] ↔ ∀ i, ¬Contributes ((recompute s).tile i) := by
  refine ⟨fun h i hi => ?_, fun h => List.eq_nil_iff_forall_not_mem.mpr fun x hx => h x.1 ((mem_contributing s).mp hx).1⟩
  obtain ⟨e, he⟩ := hi.capacities
  rw [h] at he
  exact absurd he List.not_mem_nil

/-- No Target passes what a contributing tile can give (R91, R92). -/
theorem target_le_capacity {i : Slot} {e : RGB Nat} (h : (i, e) ∈ s.contributing) (c : Chan) :
    (recompute s).wall.target.get c ≤ e.get c := by
  have hne : s.contributing ≠ [] := List.ne_nil_of_mem h
  obtain ⟨_, hs⟩ := wallStages_of_some (sh := s.showRec) (floors := s.showRec.want.map (floorOf s.showRec.floorRatio))
    (w := s.wall) hne
  obtain ⟨_, _, htarget⟩ := wallStages_spec s.showRec (s.showRec.want.map (floorOf s.showRec.floorRatio)) (s.tiles.map _) s.wall
  have hscale := commonScale_le (minCapacities s.contributing) s.showRec.want c
  rw [get_minCapacities] at hscale
  show (wallStages _ _ _ _).target.get c ≤ _
  rw [htarget, RGB.get_map, hs]
  exact (targetOf_le hscale).trans ((minCapacity_spec hne c).2 _ h)

end Sys2Proof.Machine

open Sys2Proof Sys2Proof.Machine

/-- Settles O48: the wall record of the recomputation, and the contributing tiles that it is taken from. -/
theorem commonWhiteIsWithinReach : Obligations.CommonWhiteIsWithinReach := by
  intro k s ha hr
  obtain ⟨t, ht, htile, hwall, _⟩ := exec_adoptNoReply ha hr
  obtain ⟨hwant, hratio, htarget⟩ := wallStages_spec s.showRec (s.showRec.want.map (floorOf s.showRec.floorRatio))
    (s.tiles.map _) s.wall
  have hs : t.wall.s ≤ 4096 := by
    rw [hwall]
    by_cases h : s.contributing = []
    · exact (wallStages_of_none h).1.le
    · exact (wallStages_of_some h).2.trans_le (min_le_left _ _)
  refine ⟨t, ht, by rw [hwall, recompute_number], by rw [hwall]; exact hwant, by rw [hwall]; exact hratio, hs, fun c => ?_,
    fun i e hi he c => ?_, fun hnone => ?_, fun j hj => ?_⟩
  · rw [hwall]
    exact (congrArg (·.get c) htarget).trans (RGB.get_map _ _ _)
  · rw [htile] at hi he
    rw [hwall]
    exact target_le_capacity s ((mem_contributing s).mpr ⟨hi, he⟩) c
  · rw [hwall]
    exact wallStages_of_none ((contributing_eq_nil_iff s).mpr fun i => htile i ▸ hnone i)
  · rw [htile] at hj
    obtain ⟨e, he⟩ := hj.capacities
    have hne : s.contributing ≠ [] := List.ne_nil_of_mem he
    obtain ⟨hmin, hscale⟩ := wallStages_of_some (sh := s.showRec) (w := s.wall) hne
    refine ⟨minCapacities s.contributing, by rw [hwall]; exact hmin, fun c => ?_, by rw [hwall]; exact hscale⟩
    obtain ⟨⟨x, hx, heq⟩, hle⟩ := minCapacity_spec hne c
    rw [get_minCapacities]
    refine ⟨⟨x.1, x.2, ?_⟩, fun i v hi hv => ?_⟩
    · obtain ⟨hcon, hcap⟩ := (mem_contributing s).mp hx
      exact ⟨htile x.1 ▸ hcon, htile x.1 ▸ hcap, heq⟩
    · rw [htile] at hi hv
      exact hle (i, v) ((mem_contributing s).mpr ⟨hi, hv⟩)

end

section
/-! PROOFS. The coefficients that a recomputation forms (R82, R95 to R97), and the power terms and the estimate with them
(R150, R159). -/

namespace Sys2Proof

/-- The records of a table are those of its numbers in ascending order. -/
theorem Table.cells_eq_map_get {α : Type} {n : Nat} (t : Table α n) : t.cells = (List.finRange n).map t.get := by
  refine List.ext_getElem (by simp [t.size]) fun k hk hk' => ?_
  simp [Table.get_eq]

end Sys2Proof

namespace Sys2Proof.Machine

/-! ## The formation -/

theorem Tile.factor_eq (t : Tile) : t.factor = usedFactor t := rfl

theorem map_coefficient (m p sb : Nat) (g : RGB Nat) : g.map (coefficient m p sb) = formed m p sb g := rfl

/-- An undimmed coefficient is one formed with Sb at 4096 (R96, R150). -/
theorem map_undimmedCoef (m p : Nat) (g : RGB Nat) : g.map (undimmedCoef m p) = formed m p 4096 g := by
  refine RGB.ext_get fun c => ?_
  rw [← map_coefficient, RGB.get_map, RGB.get_map]
  unfold undimmedCoef coefficient
  rw [Nat.mul_div_cancel _ (by decide)]

variable (s : State) (i : Slot)

/-- The gain that a slot's coefficients are formed from, where it takes any (R82, R95). -/
def FormedFrom (g : RGB Nat) : Prop :=
  ((s.tile i).chain.state = .active ∧ ((recompute s).tile i).slew.ga = some g)
    ∨ ((s.tile i).chain.state = .unprofiled ∧ g = ⟨4096, 4096, 4096⟩)

theorem stage9_state : (s.stage9 i).chain.state = (s.tile i).chain.state := by
  rw [stage9_frame]
  exact (stagesTo5_frame _ _ _ _).1

theorem stage9_usedFactor : usedFactor (s.stage9 i) = usedFactor (s.tile i) := by
  obtain ⟨_, _, _, hprot, _⟩ := tile_recompute_frame s i
  rw [prot_recompute] at hprot
  have h9 : (s.stage9 i).prot = (s.stage5 i).prot := by rw [stage9_frame]
  unfold usedFactor
  rw [h9, hprot]

section Formed

variable {s i} {g : RGB Nat} (h : FormedFrom s i g)
include h

theorem FormedFrom.state : (s.tile i).chain.state = .active ∨ (s.tile i).chain.state = .unprofiled := h.imp And.left And.left

theorem FormedFrom.gain : (s.stage9 i).gain = some g := by
  unfold Tile.gain
  rw [stage9_state]
  rcases h with ⟨hstate, hga⟩ | ⟨hstate, rfl⟩
  · rw [hstate, ← slew_recompute]
    exact hga
  · rw [hstate]
    rfl

/-- The stages before the formation move none of the slot record of a slot that takes coefficients. -/
theorem FormedFrom.chain : (s.stage9 i).chain = (s.tile i).chain := by
  obtain ⟨y, hy⟩ := stagesTo5_of_formed (nextCount s.wall.number) (s.showRec.want.map (floorOf s.showRec.floorRatio))
    s.protSet.shortReport h.state
  rw [stage9_frame, State.stage5, hy]
  rfl

/-- The tile that the formation leaves (R83, R96). -/
theorem FormedFrom.tile : (recompute s).tile i = placeCoefs .recompute s.showRec.m (recompute s).budget.sb g
    (noteTerm s.showRec.m (s.stage9 i)) := by
  have hgain : (noteTerm s.showRec.m (s.stage9 i)).gain = some g := h.gain
  rw [tile_recompute_stage9, formTile, hgain]

/-- The power term is that of the undimmed coefficients (R150). -/
theorem FormedFrom.powerTerm : ((recompute s).tile i).eng.powerTerm = some ((s.tile i).held.groups.power * 10
    * (s.tile i).eng.load.getD 0 * ((formed s.showRec.m (usedFactor (s.tile i)) 4096 g).r
      + (formed s.showRec.m (usedFactor (s.tile i)) 4096 g).g
      + (formed s.showRec.m (usedFactor (s.tile i)) 4096 g).b) / 3132675) := by
  obtain ⟨_, _, _, _, _, hterm⟩ := eng_recompute s i
  obtain ⟨hheld, _, _, _, _, _, _, hload⟩ := tile_recompute_frame s i
  rw [h.tile] at hheld hload
  have hheld : (s.stage9 i).held = (s.tile i).held := hheld
  have hload : (s.stage9 i).eng.load = (s.tile i).eng.load := hload
  rw [hterm, termOf, h.gain, Option.map_some, hheld, hload, Tile.factor_eq, stage9_usedFactor, map_undimmedCoef]
  rfl

end Formed

/-! ## Slots that take no coefficients -/

section Gainless

variable {s i}

/-- A slot without a gain is handed no coefficients and has no power term (R82, R150). -/
theorem tile_recompute_of_gainless (h : (s.tile i).chain.state = .joining ∨ (s.tile i).chain.state = .lost) :
    (recompute s).tile i = (s.stage5 i).setEng { (s.stage5 i).eng with powerTerm := none } := by
  have hstate5 : (s.stage5 i).chain.state = (s.tile i).chain.state := (stagesTo5_frame _ _ _ _).1
  have h9 : s.stage9 i = s.stage5 i := stages8And9_of_gainless _ _ (by rw [hstate5]; exact h)
  have hgain : (s.stage5 i).gain = none := by
    unfold Tile.gain
    rw [hstate5]
    rcases h with h | h <;> rw [h]
  have hnoted : noteTerm s.showRec.m (s.stage5 i) = (s.stage5 i).setEng { (s.stage5 i).eng with powerTerm := none } := by
    rw [noteTerm, termOf, hgain, Option.map_none]
  have hgain' : ((s.stage5 i).setEng { (s.stage5 i).eng with powerTerm := none }).gain = none := hgain
  rw [tile_recompute_stage9, h9, hnoted, formTile, hgain']

end Gainless

/-! ## The estimate -/

/-- The estimate is the sum of the power terms that the recomputation notes (R150, R159). -/
theorem estimate_recompute :
    (recompute s).budget.estimate = (slots.map fun i => (((recompute s).tile i).eng.powerTerm).getD 0).sum := by
  have hestimate : ∀ (b : Budget) (e : Nat), (b.evaluate e).1.estimate = e := by
    intro b e
    unfold Budget.evaluate
    dsimp only
    split <;> rfl
  show (Budget.evaluate _ _).1.estimate = _
  rw [hestimate, estimateOf, Table.cells_eq_map_get, List.map_map]
  refine congrArg List.sum (List.map_congr_left fun i _ => ?_)
  obtain ⟨_, _, _, _, _, hterm⟩ := eng_recompute s i
  rw [hterm, Function.comp_apply, Table.get_map, Table.get_map]
  rfl

end Sys2Proof.Machine

open Sys2Proof Sys2Proof.Machine

/-- Settles O50: a slot with a gain is formed from it, with what it was formed from noted; a JOINING slot loses its
pending coefficients and a LOST one keeps them. -/
theorem coefficientsAreFormed : Obligations.CoefficientsAreFormed := by
  intro k s ha hr
  obtain ⟨t, ht, htile, _, hbudget⟩ := exec_adoptNoReply ha hr
  refine ⟨t, ht, fun i g hg => ?_, fun i hi => ?_, fun i hi => ?_, ?_⟩
  · rw [htile] at hg ⊢
    have h : FormedFrom s i g := hg
    have hfactor : (noteTerm s.showRec.m (s.stage9 i)).factor = usedFactor (s.tile i) := stage9_usedFactor s i
    refine ⟨?_, ?_, ?_, ?_, ?_, ?_, h.powerTerm⟩
    all_goals rw [h.tile, placeCoefs]
    · rw [hfactor, map_coefficient, hbudget, ← h.chain]
      rfl
    · rfl
    · rfl
    · rfl
    · rw [hfactor]
      rfl
    · rw [hbudget]
      rfl
  · rw [htile, tile_recompute_of_gainless (.inl hi), State.stage5, stagesTo5_of_joining _ _ _ hi]
    exact ⟨rfl, rfl⟩
  · rw [htile, tile_recompute_of_gainless (.inr hi), State.stage5, stagesTo5_of_lost _ _ _ hi]
    exact ⟨rfl, rfl, rfl⟩
  · rw [hbudget, estimate_recompute]
    simp only [htile]

end

section
/-! PROOFS. SET-SLEW: the settings it holds and what it leaves as it was (R120). -/

namespace Sys2Proof.Machine

/-- A SET-SLEW leaves every slot and the budget unit as they are, so its event is its effect. -/
theorem exec_setSlew {p : Port} {block : List Byte} {x : SlewBlock} {s : State} (h : Accepts .setSlew p s)
    (hx : readSlew block = some x) :
    exec (.setSlew p block) s = .next (doSetSlew p x (s.setAuth (trafficAuth p s))) := by
  have hquiet : notify s (doSetSlew p x (s.setAuth (trafficAuth p s))) = doSetSlew p x (s.setAuth (trafficAuth p s)) :=
    notify_of_sameTiles rfl rfl
  rw [← hquiet, ← posted_accepted s h hx]
  rfl

theorem doSetSlew_spec (p : Port) (x : SlewBlock) (s : State) :
    PortsAfter p ⟨.setSlew, .done, none, .slew (slewAfter x s.slewSet)⟩ {} s (doSetSlew p x s)
      ∧ doSetSlew p x s = { s with ports := (doSetSlew p x s).ports, slewSet := slewAfter x s.slewSet } :=
  ⟨(complete_spec (s.setSlewSet (slewAfter x s.slewSet)) p .setSlew .done none _).1, rfl⟩

/-- A step setting given is held between 1 and 512 (R120). -/
theorem setTo_given_step (bit : Bool) (v held : Nat) :
    setTo (given bit v) (clampNat 1 512) held = if bit = true then max 1 (min 512 v) else held := by
  rw [setTo_given, clampNat_eq v (by decide)]

end Sys2Proof.Machine

open Sys2Proof Sys2Proof.Machine

/-- Settles O24, setting by setting from what the block gives. -/
theorem setSlewHoldsItsSettings : Obligations.SetSlewHoldsItsSettings := by
  intro p block s hacc hlen
  have hread : readSlew block = some ⟨given (bitAt block 0 0) (u16At block 2), given (bitAt block 0 1) (u16At block 4),
      given (bitAt block 0 2) (u16At block 6)⟩ := if_pos hlen
  obtain ⟨hports, hframe⟩ := doSetSlew_spec p _ (s.setAuth (trafficAuth p s))
  exact ⟨_, exec_setSlew hacc hread, setTo_given_step .., setTo_given_step .., setTo_given .., hports, hframe⟩

end

section
/-! PROOFS. SET-TRACK: the override and the manual gains it sets, the jump of a slot in FIXED, and what it leaves as it was (R107 to
R110). -/

namespace Sys2Proof.Machine

/-! ## One slot -/

theorem formTile_of_gain {b : FormedBy} {m sb : Nat} {t : Tile} {g : RGB Nat} (h : t.gain = some g) :
    formTile b m sb t = placeCoefs b m sb g t := by
  rw [formTile, h]

section Track

variable (x : TrackBlock) (m sb : Nat) (t : Tile)

/-- A tile with the override and the manual gains of a SET-TRACK, before any jump (R107). -/
def Tile.tracked (t : Tile) (x : TrackBlock) : Tile := t.setSlew (trackRecord x t.slew)

/-- A SET-TRACK jumps an ACTIVE slot that it leaves in FIXED, newly or with other manual gains (R109). -/
theorem trackJumps_iff : trackJumps t (t.tracked x) = true ↔ t.chain.state = .active ∧ (t.tracked x).mode = some .fixed
    ∧ (t.mode ≠ some .fixed ∨ (t.tracked x).slew.manual ≠ t.slew.manual) := by
  simp only [trackJumps, Tile.tracked, Tile.setSlew_chain, Bool.and_eq_true, Bool.or_eq_true, beq_iff_eq, bne_iff_ne, and_assoc,
    ne_comm (a := t.slew.manual)]

theorem trackTile_of_stay (h : ¬trackJumps t (t.tracked x) = true) : trackTile x m sb t = t.tracked x := if_neg h

/-- The jump takes the manual gains as applied gains and re-forms the slot from them (R99, R109). -/
theorem trackTile_of_jump (h : trackJumps t (t.tracked x) = true) :
    trackTile x m sb t = placeCoefs .reform m sb (t.tracked x).slew.manual
      ((t.tracked x).setSlew { (t.tracked x).slew with ga := some (t.tracked x).slew.manual }) := by
  obtain ⟨hactive, _⟩ := (trackJumps_iff x t).mp h
  have hgain : ((t.tracked x).setSlew { (t.tracked x).slew with ga := some (t.tracked x).slew.manual }).gain
      = some (t.tracked x).slew.manual := by
    simp only [Tile.gain, Tile.tracked, Tile.setSlew_chain, Tile.setSlew_slew, hactive]
  exact (if_pos h).trans (formTile_of_gain hgain)

/-- Jump or none, a SET-TRACK moves the pending coefficients, the engine record and the slew record alone, and of the slew record's
settings it sets the override and the manual gains. -/
theorem trackTile_frame : SameButPending t.chain (trackTile x m sb t).chain ∧ (trackTile x m sb t).prot = t.prot
    ∧ (trackTile x m sb t).mode = (t.tracked x).mode
    ∧ (trackTile x m sb t).slew.override = overrideAfter x.choice t.slew.override
    ∧ (trackTile x m sb t).slew.manual = setTo x.manual (fun g => g.map (min 4096)) t.slew.manual := by
  by_cases h : trackJumps t (t.tracked x) = true
  · rw [trackTile_of_jump x m sb t h]
    exact ⟨rfl, rfl, rfl, rfl, rfl⟩
  · rw [trackTile_of_stay x m sb t h]
    exact ⟨rfl, rfl, rfl, rfl, rfl⟩

end Track

/-! ## Notices -/

/-- A slot record whose pending coefficients alone move tells of no change (R19). -/
theorem SameButPending.tileNotice {x y : SlotRec} (h : SameButPending x y) : tileNotice x y = false := by
  rw [h]
  exact tileNotice_self x

/-! ## The request -/

section Request

variable (p : Port) (x : TrackBlock) {s : State}

theorem doSetTrack_of_vacant (h : (s.tile x.slot).chain.state = .vacant) :
    doSetTrack p x s = refuse p .setTrack .notFound s :=
  if_neg (by rw [present_iff]; exact not_not_intro h)

/-- The slot that a SET-TRACK names, as it leaves it, where it is not VACANT. -/
def State.trackedTile (s : State) (x : TrackBlock) : Tile := trackTile x s.showRec.m s.budget.sb (s.tile x.slot)

theorem doSetTrack_of_present (h : (s.tile x.slot).chain.state ≠ .vacant) :
    doSetTrack p x s = finish p .setTrack (.track x.slot (s.trackedTile x).slew.override (s.trackedTile x).slew.manual
      (s.trackedTile x).mode (s.trackedTile x).slew.ga) (s.putTile x.slot (s.trackedTile x)) := by
  rw [doSetTrack, if_pos ((present_iff _).mpr h)]
  simp only [State.tile_putTile_same]
  rfl

theorem tile_doSetTrack (h : (s.tile x.slot).chain.state ≠ .vacant) : (doSetTrack p x s).tile x.slot = s.trackedTile x := by
  rw [doSetTrack_of_present p x h]
  exact State.tile_putTile_same _ _ _

theorem tile_doSetTrack_other (h : (s.tile x.slot).chain.state ≠ .vacant) {j : Slot} (hj : j ≠ x.slot) :
    (doSetTrack p x s).tile j = s.tile j := by
  rw [doSetTrack_of_present p x h]
  exact State.tile_putTile_other _ _ _ _ hj

/-- The completion at its port, and the frame. -/
theorem doSetTrack_spec (h : (s.tile x.slot).chain.state ≠ .vacant) :
    PortsAfter p ⟨.setTrack, .done, none, .track x.slot (s.trackedTile x).slew.override (s.trackedTile x).slew.manual
        (s.trackedTile x).mode (s.trackedTile x).slew.ga⟩ {} s (doSetTrack p x s)
      ∧ doSetTrack p x s = { s with ports := (doSetTrack p x s).ports, tiles := (doSetTrack p x s).tiles } := by
  rw [doSetTrack_of_present p x h]
  exact ⟨(complete_spec (s.putTile x.slot (s.trackedTile x)) p .setTrack .done none _).1, rfl⟩

/-- A SET-TRACK changes no slot state, flag or action, so its event adds no notice. -/
theorem notify_doSetTrack (a : Authority) (h : (s.tile x.slot).chain.state ≠ .vacant) :
    notify s (doSetTrack p x (s.setAuth a)) = doSetTrack p x (s.setAuth a) := by
  obtain ⟨hchain, hprot, _⟩ := trackTile_frame x s.showRec.m s.budget.sb (s.tile x.slot)
  obtain ⟨_, hframe⟩ := doSetTrack_spec p x (s := s.setAuth a) h
  have hsame : ∀ i, SameButPending (s.tile i).chain ((doSetTrack p x (s.setAuth a)).tile i).chain
      ∧ ((doSetTrack p x (s.setAuth a)).tile i).prot = (s.tile i).prot := by
    intro i
    by_cases hi : i = x.slot
    · rw [hi, tile_doSetTrack p x (s := s.setAuth a) h]
      exact ⟨hchain, hprot⟩
    · rw [tile_doSetTrack_other p x (s := s.setAuth a) h hi]
      exact ⟨rfl, rfl⟩
  refine notify_quiet (tileDue_false fun i => (hsame i).1.tileNotice) (condDue_false (fun i => ?_) ?_ ?_)
  · rw [(hsame i).2]
    exact ProtRec.sameFlags_self _
  · rw [hframe, State.setAuth_budget]
  · rw [hframe, State.setAuth_budget]

theorem exec_setTrack {block : List Byte} (hacc : Accepts .setTrack p s) (hx : readTrack block = some x)
    (h : (s.tile x.slot).chain.state ≠ .vacant) :
    exec (.setTrack p block) s = .next (doSetTrack p x (s.setAuth (trafficAuth p s))) := by
  rw [← notify_doSetTrack p x _ h, ← posted_accepted s hacc hx]
  rfl

end Request

end Sys2Proof.Machine

open Sys2Proof Sys2Proof.Machine

/-- Settles O28: a VACANT slot is refused, and any other is read off the tile that the request leaves, with its jump and without. -/
theorem setTrackSetsOneSlot : Obligations.SetTrackSetsOneSlot := by
  intro p block x s hacc hx
  refine ⟨fun h => ?_, fun h => ?_⟩
  · obtain ⟨hports, hframe⟩ := posted_refused hacc hx (f := doSetTrack p) (doSetTrack_of_vacant p x h)
    exact ⟨_, rfl, hports, hframe⟩
  · obtain ⟨_, _, hmode, hoverride, hmanual⟩ := trackTile_frame x s.showRec.m s.budget.sb (s.tile x.slot)
    obtain ⟨hports, hframe⟩ := doSetTrack_spec p x (s := s.setAuth (trafficAuth p s)) h
    have htile : (doSetTrack p x (s.setAuth (trafficAuth p s))).tile x.slot
        = trackTile x s.showRec.m s.budget.sb (s.tile x.slot) := tile_doSetTrack p x h
    have hgains : ((s.tile x.slot).tracked x).slew.manual
        = (trackTile x s.showRec.m s.budget.sb (s.tile x.slot)).slew.manual := hmanual.symm
    have hjumps := trackJumps_iff x (s.tile x.slot)
    rw [← hmode, hgains] at hjumps
    refine ⟨_, exec_setTrack p x hacc hx h, ?_⟩
    rw [htile]
    refine ⟨hmanual.trans ?_, fun m hm => ?_, fun hc => ?_, fun hc => ?_, fun hactive hfixed hchanged => ?_,
      fun hstay => ?_, fun j hj => tile_doSetTrack_other p x (s := s.setAuth (trafficAuth p s)) h hj, hports, hframe⟩
    · cases x.manual <;> rfl
    · rw [hoverride, hm]
      rfl
    · rw [hoverride, hc]
      rfl
    · rw [hoverride, hc]
      rfl
    · rw [trackTile_of_jump _ _ _ _ (hjumps.mpr ⟨hactive, hfixed, hchanged⟩)]
      exact ⟨rfl, rfl, rfl, rfl⟩
    · have hno : ¬trackJumps (s.tile x.slot) ((s.tile x.slot).tracked x) = true := by
        rw [hjumps]
        tauto
      rw [trackTile_of_stay _ _ _ _ hno]
      rfl

end

section
/-! PROOFS. The applied gains at a recomputation (R113, R114): the step of a channel, the rows of the table, and what stage 9 finds
of a slot. -/

namespace Sys2Proof.Machine

/-! ## The step of a channel -/

section Step

variable {x : SlewSettings} {ga gt : Nat}

/-- A channel stands where its gains are within the tolerance of each other (R114). -/
theorem slewStep_of_within (hup : gt ≤ ga + x.tolerance) (hdown : ga ≤ gt + x.tolerance) :
    slewStep x ga gt = (ga, .settled) := if_pos (by omega)

/-- A channel below its target by more than the tolerance steps up, and not past it (R114). -/
theorem slewStep_of_below (h : ga + x.tolerance < gt) : slewStep x ga gt = (min gt (ga + x.stepUp), .up) := by
  rw [slewStep, if_neg (by omega), if_pos (by omega)]

/-- A channel above its target by more than the tolerance steps down, and not past it (R114). -/
theorem slewStep_of_above (h : gt + x.tolerance < ga) : slewStep x ga gt = (max gt (ga - x.stepDown), .down) := by
  rw [slewStep, if_neg (by omega), if_neg (by omega)]

end Step

/-! ## The rows of the table -/

section Rows

variable {x : SlewSettings} {gt : RGB Nat} {r : SlewRec} {holding : Bool}

theorem slewComputing_of_first (h : r.firstSet = true) : slewComputing x holding gt r
    = { r with ga := some gt, firstSet := false, status := some (RGB.all .first) } := if_pos h

theorem slewComputing_of_held (hfirst : r.firstSet = false) (hhold : holding = true) : slewComputing x holding gt r
    = { r with status := some (RGB.all .held) } := by
  rw [slewComputing, hfirst, hhold]
  rfl

theorem slewComputing_of_free {ga : RGB Nat} (hfirst : r.firstSet = false) (hhold : holding = false) (hga : r.ga = some ga) :
    slewComputing x holding gt r = { r with
      ga := some ((ga.zip (slewStep x) gt).map (·.1)), status := some ((ga.zip (slewStep x) gt).map (·.2)) } := by
  simp only [slewComputing, hfirst, hhold, hga, Bool.false_eq_true, if_false]

/-- HOLD is in force on a slot by the action of either class (R133). -/
theorem ProtRec.holding_iff (r : ProtRec) : r.holding = true ↔ r.hotAct.kind = .hold ∨ r.sensorAct.kind = .hold := by
  rw [ProtRec.holding, Bool.or_eq_true, beq_iff_eq, beq_iff_eq]

variable {target : RGB Nat} {t : Tile}

theorem slew_stages8And9_of_fixed (hactive : t.chain.state = .active) (hfixed : t.mode = some .fixed) :
    (stages8And9 x target t).slew
      = { t.slew with ga := some t.slew.manual, firstSet := false, status := some (RGB.all .manual) } := by
  simp only [stages8And9, hactive, hfixed, if_true, Tile.setSlew_slew]

theorem stages8And9_of_computes (h : t.computes = true) : ∃ gt, (stages8And9 x target t).eng.gt = some gt
    ∧ (stages8And9 x target t).slew = slewComputing x t.prot.holding gt t.slew := by
  have hfixed : t.mode ≠ some .fixed := by
    rcases (Tile.computes_iff.mp h).2 with hm | hm <;> (rw [hm]; decide)
  refine ⟨_, stages8And9_gt x target h, ?_⟩
  simp only [stages8And9, Tile.active_of_computes h, hfixed, h, if_true, if_false, Tile.setSlew_slew]

theorem slew_stages8And9_of_unprofiled (h : t.chain.state = .unprofiled) : (stages8And9 x target t).slew
    = { t.slew with ga := some (RGB.all 4096), status := some (RGB.all .uncorrected) } := by
  simp only [stages8And9, h, Tile.setSlew_slew]

end Rows

/-! ## What stage 9 finds of a slot -/

section Stage5

variable (s : State) (i : Slot)

/-- Stages 1 to 5 leave what stage 9 judges a slot by (R82, R113). -/
theorem stage5_frame : (s.stage5 i).chain.state = (s.tile i).chain.state ∧ (s.stage5 i).slew = (s.tile i).slew
    ∧ (s.stage5 i).mode = (s.tile i).mode
    ∧ (s.stage5 i).prot.holding = (s.tile i).prot.holding := by
  obtain ⟨hstate, hheld, hslew⟩ := stagesTo5_frame (nextCount s.wall.number)
    (s.showRec.want.map (floorOf s.showRec.floorRatio)) s.protSet.shortReport (s.tile i)
  obtain ⟨_, _, _, hprot, _⟩ := tile_recompute_frame s i
  rw [prot_recompute] at hprot
  refine ⟨hstate, hslew, ?_, ?_⟩
  · rw [State.stage5, Tile.mode, hheld, hslew]
    rfl
  · rw [hprot]
    rfl

end Stage5

end Sys2Proof.Machine

open Sys2Proof Sys2Proof.Machine

/-- Settles O49, row by row of R113 from what stage 9 finds of the slot. -/
theorem appliedGainsFollowTheTable : Obligations.AppliedGainsFollowTheTable := by
  intro k s ha hr
  obtain ⟨t, ht, htile, _, _⟩ := exec_adoptNoReply ha hr
  refine ⟨t, ht, fun i => ?_⟩
  obtain ⟨hstate, hslew, hmode, hholding⟩ := stage5_frame s i
  obtain ⟨_, _, _, _, hgt, _⟩ := eng_recompute s i
  rw [htile, slew_recompute, hgt, ← hstate, ← hmode, ← hslew]
  refine ⟨slew_stages8And9_of_fixed, fun hactive hm => ?computing, slew_stages8And9_of_unprofiled, fun hgainless => ?gainless⟩
  case gainless => rw [State.stage9, stages8And9_of_gainless _ _ hgainless]
  case computing =>
    obtain ⟨gt, hgt9, hslew9⟩ := stages8And9_of_computes (x := s.slewSet) (target := (recompute s).wall.target)
      (Tile.computes_iff.mpr ⟨hactive, hm⟩)
    rw [hholding] at hslew9
    refine ⟨gt, hgt9, fun hfirst => hslew9.trans (slewComputing_of_first hfirst),
      fun hfirst hhold => hslew9.trans (slewComputing_of_held hfirst ((ProtRec.holding_iff _).mpr hhold)),
      fun ga hfirst hhot hsensor hga => ?_⟩
    have hfree : (s.tile i).prot.holding = false :=
      Bool.eq_false_iff.mpr fun h => ((ProtRec.holding_iff _).mp h).elim hhot hsensor
    refine ⟨_, _, hslew9.trans (slewComputing_of_free hfirst hfree hga), fun c => ?_⟩
    simp only [RGB.get_map, RGB.get_zip]
    refine ⟨fun hup hdown => ?_, fun hbelow => ?_, fun habove => ?_⟩
    · rw [slewStep_of_within hup hdown]
      exact ⟨rfl, rfl⟩
    · rw [slewStep_of_below hbelow]
      exact ⟨rfl, rfl⟩
    · rw [slewStep_of_above habove]
      exact ⟨rfl, rfl⟩

end

section
/-! PROOFS. The protection record of a tile: its flags and its factor (R124, R134), the rows of R131's table, and what keeps a latched
flag beside every active one and P at what the actions in force make it. -/

namespace Sys2Proof.Machine

/-! ## Sound records -/

/-- A latched flag stands beside the active flag (R124). -/
def Cond.Sound (x : Cond) : Prop := x.active = true → x.latched = true

/-- Each of the six conditions has its latched flag beside its active flag (R124). -/
structure ProtRec.FlagsSound (r : ProtRec) : Prop where
  hot : r.hot.Sound
  overheat : r.overheat.Sound
  sensor : r.sensor.Sound
  lost : r.lost.Sound
  short : r.short.Sound
  probe : r.probe.Sound

/-- The flags are sound, and P is what the actions in force make it (R134). -/
structure ProtRec.Sound (r : ProtRec) : Prop where
  flags : r.FlagsSound
  factor : r.p = protFactor r

theorem ProtRec.flagsSound_iff (r : ProtRec) : r.FlagsSound ↔ ∀ c ∈ r.conds, c.active = true → c.latched = true := by
  simp only [ProtRec.conds, List.forall_mem_cons, List.not_mem_nil, false_implies, implies_true, and_true]
  exact ⟨fun ⟨hhot, hover, hsensor, hlost, hshort, hprobe⟩ => ⟨hhot, hover, hsensor, hlost, hshort, hprobe⟩,
    fun ⟨hhot, hover, hsensor, hlost, hshort, hprobe⟩ => ⟨hhot, hover, hsensor, hlost, hshort, hprobe⟩⟩

/-- Both invariants, as a statement about each tile's protection record. -/
def ProtSound (s : State) : Prop := ∀ i, (s.tile i).prot.Sound

theorem protSound_iff (s : State) : ProtSound s ↔ FlagsInv s ∧ FactorInv s :=
  ⟨fun h => ⟨fun i => (ProtRec.flagsSound_iff _).mp (h i).flags, fun i => (h i).factor⟩,
    fun ⟨hflags, hfactor⟩ i => ⟨(ProtRec.flagsSound_iff _).mpr (hflags i), hfactor i⟩⟩

/-! ## Conditions -/

theorem Cond.raise_sound (x : Cond) : x.raise.Sound := fun _ => rfl

theorem Cond.clear_sound (x : Cond) : x.clear.Sound := nofun

/-- The flags of a condition reported as it stands (R137). -/
theorem Cond.reported_sound (x : Cond) : (⟨x.cond, x.cond, x.latched || x.cond⟩ : Cond).Sound :=
  fun h => (Bool.or_eq_true _ _).mpr (.inr h)

theorem Cond.Sound.judge {x : Cond} (h : x.Sound) (report now : Bool) : (x.judge report now).Sound := by
  unfold Cond.judge
  split
  · split
    · exact x.raise_sound
    · exact h
  · exact h
  · exact x.clear_sound
  · exact h

theorem Cond.unlatch_eq (x : Cond) : x.unlatch = { x with latched := x.latched && x.active } := by
  cases x with
  | mk cond active latched => cases active <;> simp [Cond.unlatch]

theorem Cond.Sound.unlatch {x : Cond} (h : x.Sound) : x.unlatch.Sound := by
  rw [Cond.unlatch_eq]
  exact fun ha => (Bool.and_eq_true _ _).mpr ⟨h ha, ha⟩

/-! ## One evaluation of HOT or SENSOR -/

/-- What an evaluation that finds the condition ACTIVE makes of the action: LATCHED and RETRY put one in force if none is (R131). -/
def Act.found (c : ClassSettings) (a : Act) : Act :=
  if c.mode = .latched ∨ c.mode = .retry then a.startIfNone c else a

/-- What an evaluation that finds the condition ACTIVE makes of it: a condition that was INACTIVE is reported, except under OFF
(R131). -/
def Cond.found (c : ClassSettings) (x : Cond) : Cond :=
  if x.cond = true then x else if c.mode = .off then { x with cond := true } else x.raise

theorem evalClass_active (c : ClassSettings) (x : Cond) (a : Act) : evalClass c true x a = (x.found c, a.found c) := by
  unfold evalClass Cond.found Act.found
  cases x.cond <;> cases c.mode <;> rfl

theorem evalClass_falls (c : ClassSettings) {x : Cond} (a : Act) (h : x.cond = true) : evalClass c false x a = (x.clear, a) := by
  simp only [evalClass, h]

theorem evalClass_stays (c : ClassSettings) {x : Cond} (a : Act) (h : x.cond = false) : evalClass c false x a = (x, a) := by
  simp only [evalClass, h]

theorem Cond.Sound.found {x : Cond} (h : x.Sound) (c : ClassSettings) : (x.found c).Sound := by
  unfold Cond.found
  split
  · exact h
  · split
    · exact h
    · exact x.raise_sound

theorem Cond.Sound.evalClass {x : Cond} (h : x.Sound) (c : ClassSettings) (now : Bool) (a : Act) :
    (evalClass c now x a).1.Sound := by
  cases now with
  | true =>
    rw [evalClass_active]
    exact h.found c
  | false =>
    cases hx : x.cond with
    | true =>
      rw [evalClass_falls c a hx]
      exact x.clear_sound
    | false =>
      rw [evalClass_stays c a hx]
      exact h

/-! ## Settings and acknowledgement -/

theorem alignMode_sound (c : ClassSettings) (x : Cond) (a : Act) : (alignMode c x a).1.Sound := by
  unfold alignMode
  dsimp only
  split
  · exact nofun
  · exact x.reported_sound
  · exact x.reported_sound
  · exact x.reported_sound

theorem Cond.Sound.alignClass {x : Cond} (h : x.Sound) (old new : ClassSettings) (a : Act) : (alignClass old new x a).1.Sound := by
  unfold Machine.alignClass
  dsimp only
  split
  · exact h
  · exact alignMode_sound new x a

theorem Cond.Sound.alignShort {x : Cond} (h : x.Sound) (old new : Bool) : (alignShort old new x).Sound := by
  unfold Machine.alignShort
  split
  · exact h
  · split
    · exact x.reported_sound
    · exact nofun

theorem ProtRec.FlagsSound.alignProt {r : ProtRec} (h : r.FlagsSound) (old new : ProtSettings) : (alignProt old new r).FlagsSound :=
  ⟨h.hot.alignClass _ _ _, h.overheat, h.sensor.alignClass _ _ _, h.lost, h.short.alignShort _ _, h.probe⟩

theorem ProtRec.FlagsSound.clearRest {r : ProtRec} (h : r.FlagsSound) (x : ProtSettings) : (clearRest x r).FlagsSound :=
  ⟨h.hot.unlatch, h.overheat.unlatch, h.sensor.unlatch, h.lost.unlatch, h.short.unlatch, h.probe.unlatch⟩

/-! ## Whole records -/

theorem protSound_fresh : ({} : ProtRec).Sound := ⟨⟨nofun, nofun, nofun, nofun, nofun, nofun⟩, rfl⟩

section Record

variable {r : ProtRec} (h : r.Sound)
include h

/-! LOST, SHORT and PROBE put no action in force, so P stands with them. -/

theorem ProtRec.Sound.withLost {c : Cond} (hc : c.Sound) : ({ r with lost := c } : ProtRec).Sound :=
  ⟨{ h.flags with lost := hc }, h.factor⟩

theorem ProtRec.Sound.withShort {c : Cond} (hc : c.Sound) : ({ r with short := c } : ProtRec).Sound :=
  ⟨{ h.flags with short := hc }, h.factor⟩

theorem ProtRec.Sound.withProbe {c : Cond} (hc : c.Sound) (why : Option ProbeReason) (ch : Option Chan) :
    ({ r with probe := c, probeReason := why, probeChan := ch } : ProtRec).Sound :=
  ⟨{ h.flags with probe := hc }, h.factor⟩

/-- A timer that runs leaves the actions in force (R132). -/
theorem ProtRec.Sound.aged : ({ r with hotAct := r.hotAct.aged, sensorAct := r.sensorAct.aged } : ProtRec).Sound :=
  ⟨{ h.flags with }, h.factor⟩

end Record

/-- P settled on sound flags leaves a sound record (R134). -/
theorem ProtRec.FlagsSound.settleTile {t : Tile} (h : t.prot.FlagsSound) (m sb : Nat) (was : Bool) :
    (settleTile m sb was t).prot.Sound := by
  rw [settleTile_prot]
  exact ⟨{ h with }, rfl⟩

/-! ## What the chain controller and the sweep sequencer do to a tile's record -/

section Tile

variable {t : Tile}

theorem protSound_countMiss (h : t.prot.Sound) (limit : Nat) : (countMiss limit t).prot.Sound := by
  unfold countMiss
  dsimp only
  split
  · split
    · exact h.withLost (Cond.raise_sound _)
    · exact h
  · split <;> exact h

theorem returnFromLost_prot (t : Tile) : (returnFromLost t).prot = t.prot
    ∨ (returnFromLost t).prot = { t.prot with lost := t.prot.lost.clear } := by
  unfold returnFromLost
  split
  · exact .inl rfl
  · exact .inr rfl

theorem protSound_returnFromLost (h : t.prot.Sound) : (returnFromLost t).prot.Sound := by
  rcases returnFromLost_prot t with e | e <;> rw [e]
  · exact h
  · exact h.withLost (Cond.clear_sound _)

theorem protSound_lostAnswered (h : t.prot.Sound) (policy : LostPolicy) : (lostAnswered policy t).prot.Sound := by
  cases policy with
  | auto => exact protSound_returnFromLost h
  | onClear => exact h

theorem protSound_enumTile (h : t.prot.Sound) (policy : LostPolicy) (serial : Serial) : (enumTile policy serial t).prot.Sound := by
  unfold enumTile
  split
  · split
    · exact protSound_lostAnswered h policy
    · exact h
  · exact protSound_fresh

/-- The state change of a POLL reply moves LOST alone of the protection record (R10, R128). -/
theorem pollState_prot (policy : LostPolicy) (t : Tile) : (pollState policy t).prot = t.prot
    ∨ (pollState policy t).prot = { t.prot with lost := t.prot.lost.clear } := by
  unfold pollState
  split
  · split <;> exact .inl rfl
  · cases policy with
    | auto => exact returnFromLost_prot t
    | onClear => exact .inl rfl
  all_goals exact .inl rfl

theorem flagsSound_pollState (h : t.prot.FlagsSound) (policy : LostPolicy) : (pollState policy t).prot.FlagsSound := by
  rcases pollState_prot policy t with e | e <;> rw [e]
  · exact h
  · exact { h with lost := Cond.clear_sound _ }

theorem succeedBinding_prot (k : Nat) (w : Working) (t : Tile) : (succeedBinding k w t).prot = t.prot := by
  unfold succeedBinding
  dsimp only
  split
  · rfl
  · split <;> rfl

theorem flagsSound_clearTile (h : t.prot.FlagsSound) (x : ProtSettings) : (clearTile x t).prot.FlagsSound := by
  have hreturned : (if clearReturns t then returnFromLost t else t).prot.FlagsSound := by
    split
    · rcases returnFromLost_prot t with e | e <;> rw [e]
      · exact h
      · exact { h with lost := Cond.clear_sound _ }
    · exact h
  have hstart : (clearStart t).prot.FlagsSound := { hreturned with probe := Cond.clear_sound _ }
  exact hstart.clearRest x

end Tile

end Sys2Proof.Machine
end

section
/-! PROOFS. What an arrival makes of the protection record of its tile (R65, R66, R70, R74), and the tile that a POLL reply leaves. -/

namespace Sys2Proof.Machine

variable (s : State) (i : Slot) (temp : Option Int) (fault : Bool) (hours load : Nat)

/-! ## The reading -/

/-- The reading just taken is valid where R64 says so. -/
theorem validReading_takeReading (r : TempRec) : (takeReading temp fault r).validReading = validOwn temp fault := by
  cases temp with
  | none => rfl
  | some v =>
    by_cases h : fault = false ∧ -40 ≤ v ∧ v ≤ 125
    · have hvalid : readingValid (some v) fault = true := (readingValid_some v fault).mpr h
      simp only [validOwn, if_pos h, TempRec.validReading, takeReading, hvalid]
    · have hvalid : readingValid (some v) fault = false := Bool.eq_false_iff.mpr fun hv => h ((readingValid_some v fault).mp hv)
      simp only [validOwn, if_neg h, TempRec.validReading, takeReading, hvalid]

/-- What a valid own reading makes of the protection record: OVERHEAT is judged on it, and stands where there is none (R66, R126). -/
def ProtRec.afterReading (r : ProtRec) (x : TempSettings) (own : Option Int) : ProtRec :=
  match own with
  | some v => judgeOverheat x v r
  | none => r

/-- A tile whose reading has been taken, with its lit hours and load (R64, R66, R75). -/
def Tile.withReading (t : Tile) (x : TempSettings) : Tile :=
  ((t.setEng { t.eng with hours := some hours, load := some load }).setTemp (takeReading temp fault t.temp)).setProt
    (t.prot.afterReading x (validOwn temp fault))

theorem arrivalReading_eq : arrivalReading i temp fault hours load s
    = s.putTile i ((s.tile i).withReading temp fault hours load s.tempSet) := by
  unfold Tile.withReading
  rw [← validReading_takeReading temp fault (s.tile i).temp]
  rfl

theorem ProtRec.FlagsSound.afterReading {r : ProtRec} (h : r.FlagsSound) (x : TempSettings) (own : Option Int) :
    (r.afterReading x own).FlagsSound := by
  cases own with
  | none => exact h
  | some v =>
    refine { h with overheat := ?_ }
    simp only [ProtRec.afterReading, judgeOverheat]
    split
    · exact Cond.raise_sound _
    · exact Cond.clear_sound _

/-! ## The sample -/

/-- What an arrival with the selection `sel` makes of the protection record: SENSOR is judged on the selection, and HOT where the sample
has written a new Teff `e` (R70, R74). -/
def ProtRec.afterSample (r : ProtRec) (c : ProtSettings) (x : TempSettings) (noSource : Bool) (e : Option Int) : ProtRec :=
  match e with
  | some v => judgeHot c.hot x v (judgeSensor c.sensor noSource r)
  | none => judgeSensor c.sensor noSource r

/-- The Teff that a sample has written, none where it has entered its block (R71, R72). -/
def newTeff (w : Nat) (v : Int) (r : TempRec) : Option Int := if (takeSample w v r).2 then (takeSample w v r).1.teff else none

theorem arrivalSample_none : arrivalSample i none s = s.putTile i (((s.tile i).setTemp (applySelection none (s.tile i).temp)).setProt
    ((s.tile i).prot.afterSample s.protSet s.tempSet true none)) := rfl

theorem arrivalSample_some (x : Selection) : arrivalSample i (some x) s = s.putTile i
    (((s.tile i).setTemp (takeSample s.tempSet.w x.sample.temp (applySelection (some x) (s.tile i).temp)).1).setProt
      ((s.tile i).prot.afterSample s.protSet s.tempSet false
        (newTeff s.tempSet.w x.sample.temp (applySelection (some x) (s.tile i).temp)))) := by
  unfold arrivalSample newTeff
  dsimp only
  generalize takeSample s.tempSet.w x.sample.temp (applySelection (some x) (s.tile i).temp) = y
  obtain ⟨r, written⟩ := y
  cases written with
  | false => rfl
  | true => cases r.teff <;> rfl

theorem ProtRec.FlagsSound.afterSample {r : ProtRec} (h : r.FlagsSound) (c : ProtSettings) (x : TempSettings) (noSource : Bool)
    (e : Option Int) : (r.afterSample c x noSource e).FlagsSound := by
  have hsensor : (judgeSensor c.sensor noSource r).FlagsSound := { h with sensor := h.sensor.evalClass _ _ _ }
  cases e with
  | none => exact hsensor
  | some v => exact { hsensor with hot := hsensor.hot.evalClass _ _ _ }

/-! ## The whole reply -/

variable (echo : RGB Nat)

/-- The tile of slot `i` when its arrival is over, before its change of state and the settling of P (R10, R65). -/
def State.arrived : Tile := (arrival i temp fault hours load (s.putTile i (pollConfirm echo (s.tile i)))).tile i

/-- A POLL reply moves its own tile alone: the arrival, the change of state, and P settled (R10, R65, R134). -/
theorem pollReplied_eq : pollReplied i temp fault hours load echo s = s.putTile i (settleTile s.showRec.m s.budget.sb
    (s.tile i).prot.overheat.cond (pollState s.protSet.lostPolicy (s.arrived i temp fault hours load echo))) := by
  obtain ⟨y, hy, _⟩ := arrival_spec (s.putTile i (pollConfirm echo (s.tile i))) i temp fault hours load
  have harrived : s.arrived i temp fault hours load echo = y := by rw [State.arrived, hy, State.tile_putTile_same]
  rw [State.putTile_putTile] at hy
  unfold pollReplied settleSlot
  dsimp only
  rw [harrived, hy]
  simp only [State.tile_putTile_same, State.putTile_putTile]
  rfl

/-- The tile of slot `i` with its reading taken, and the source selected for it then (R69). -/
theorem arrived_eq : ∃ y : Tile, y = (pollConfirm echo (s.tile i)).withReading temp fault hours load s.tempSet
    ∧ s.arrived i temp fault hours load echo
      = (arrivalSample i (selectSource (s.putTile i y) i) (s.putTile i y)).tile i := by
  refine ⟨_, rfl, ?_⟩
  unfold State.arrived arrival
  dsimp only
  rw [arrivalReading_eq, State.putTile_putTile, State.tile_putTile_same]
  rfl

theorem flagsSound_arrived (h : (s.tile i).prot.FlagsSound) : (s.arrived i temp fault hours load echo).prot.FlagsSound := by
  obtain ⟨y, hy, harrived⟩ := arrived_eq s i temp fault hours load echo
  have hread : y.prot.FlagsSound := hy ▸ ProtRec.FlagsSound.afterReading h _ _
  rw [harrived]
  cases selectSource (s.putTile i y) i with
  | none =>
    rw [arrivalSample_none, State.tile_putTile_same, State.tile_putTile_same, Tile.setProt_prot]
    exact hread.afterSample _ _ _ _
  | some x =>
    rw [arrivalSample_some, State.tile_putTile_same, State.tile_putTile_same, Tile.setProt_prot]
    exact hread.afterSample _ _ _ _

end Sys2Proof.Machine
end

section
/-! PROOFS. What the blocks of the part do to the protection records (R124, R134): rounds, sweeps, replies, binding, enumeration, the
store, time and the requests. -/

namespace Sys2Proof.Machine

variable {s t : State}

/-! ## Updates -/

/-- Where every protection record stands, soundness does. -/
theorem ProtSound.of_same (h : ProtSound s) (ht : ∀ i, (t.tile i).prot = (s.tile i).prot) : ProtSound t := fun i => by
  rw [ht i]
  exact h i

theorem ProtSound.ite {c : Prop} [Decidable c] (hs : ProtSound s) (ht : ProtSound t) : ProtSound (if c then s else t) := by
  split
  · exact hs
  · exact ht

theorem ProtSound.mapIdxTiles (h : ProtSound s) {f : Slot → Tile → Tile} (hf : ∀ i (t : Tile), t.prot.Sound → (f i t).prot.Sound) :
    ProtSound (s.setTiles (s.tiles.mapIdx f)) := fun i => by
  rw [State.tile_setTiles, Table.get_mapIdx]
  exact hf i _ (h i)

theorem ProtSound.mapTiles (h : ProtSound s) {f : Tile → Tile} (hf : ∀ t : Tile, t.prot.Sound → (f t).prot.Sound) :
    ProtSound (s.setTiles (s.tiles.map f)) := h.mapIdxTiles fun _ => hf

theorem protSound_putTile {i : Slot} {x : Tile} (h : ∀ j, j ≠ i → (s.tile j).prot.Sound) (hx : x.prot.Sound) :
    ProtSound (s.putTile i x) := fun j => by
  by_cases hj : j = i
  · subst hj
    rw [State.tile_putTile_same]
    exact hx
  · rw [State.tile_putTile_other _ _ _ _ hj]
    exact h j hj

theorem ProtSound.putTile (h : ProtSound s) (i : Slot) {x : Tile} (hx : x.prot.Sound) : ProtSound (s.putTile i x) :=
  protSound_putTile (fun j _ => h j) hx

theorem ProtSound.finish (h : ProtSound s) (p : Port) (n : ReqName) (d : ResultData) : ProtSound (finish p n d s) := h

theorem ProtSound.foldl {α : Type} {f : State → α → State} (h : ProtSound s) (hf : ∀ u x, ProtSound u → ProtSound (f u x))
    (xs : List α) : ProtSound (xs.foldl f s) := by
  induction xs generalizing s with
  | nil => exact h
  | cons x xs ih => exact ih (hf s x h)

/-- P settled at every slot leaves every record sound where the flags are (R134). -/
theorem protSound_settleAll (before : State) (h : ∀ i, (s.tile i).prot.FlagsSound) : ProtSound (settleAll before s) := fun i => by
  unfold settleAll
  rw [State.tile_setTiles, Table.get_mapIdx]
  exact (h i).settleTile _ _ _

variable (h : ProtSound s)
include h

/-! ## The rest of a round -/

/-- A recomputation judges SHORT and puts no action in force (R98, R129). -/
theorem ProtSound.recompute : ProtSound (recompute s) := fun i => by
  have hstages : (s.stage5 i).prot.Sound := by
    have hjudged : ∀ (report : Bool) (t : Tile), t.prot.Sound → (judgeShort report t).prot.Sound :=
      fun report t ht => ht.withShort (ht.flags.short.judge _ _)
    unfold State.stage5 stagesTo5
    split
    · exact h i
    · exact hjudged _ _ (h i)
    · exact h i
    · exact hjudged _ _ (h i)
    · split <;> exact hjudged _ _ (h i)
  rw [prot_recompute]
  exact hstages

theorem ProtSound.pushFrom (k : Nat) : ProtSound (pushFrom k s) := by
  rcases pushFrom_spec s k with ⟨e, _⟩ | ⟨i, _, _, e⟩ <;> (rw [e]; exact h)

theorem ProtSound.completePollPhase : ProtSound (completePollPhase s) := h.recompute.pushFrom 0

theorem ProtSound.endSweep (v : Verdict) (why : Option Reason) : ProtSound (endSweep v why s) := by
  rw [endSweep_frame]
  exact h

theorem ProtSound.failTile (i : Slot) (why : ProbeReason) (c : Option Chan) : ProtSound (failTile i why c s) :=
  h.putTile i ((h i).withProbe (Cond.raise_sound _) (some why) c)

theorem ProtSound.probeFromCursor : ProtSound (probeFromCursor s) := h.of_same fun i => by
  rw [State.tile, (probeFromCursor_frame s).1]
  rfl

theorem ProtSound.probeStep : ProtSound (probeStep s) := by
  have hsweep : ∀ x, ProtSound (s.setSweep x) := fun _ => h
  unfold Machine.probeStep
  split
  · exact h.probeFromCursor
  · dsimp only
    split
    · split
      · exact (hsweep _).probeFromCursor
      · split
        · exact h
        · exact (hsweep _).probeFromCursor
    · split <;> exact (h.failTile _ _ _).probeFromCursor

theorem ProtSound.probePhase : ProtSound (probePhase s) := by
  have hstep : ProtSound (Machine.probeStep (s.setActivity .idle)) := ProtSound.probeStep (s := s.setActivity .idle) h
  unfold Machine.probePhase
  split
  · exact .ite hstep hstep.completePollPhase
  · exact h.completePollPhase

theorem ProtSound.pollFrom (k : Nat) : ProtSound (pollFrom k s) := by
  rcases pollFrom_spec s k with ⟨e, _⟩ | ⟨i, _, _, e⟩ <;> rw [e]
  · unfold adoptPhase
    split
    · exact h
    · exact h.probePhase
  · exact h

theorem ProtSound.startRound : ProtSound (startRound s) :=
  ProtSound.pollFrom (s := s.setChain { s.chain with roundTimer := some 0, startNow := false }) h 0

/-! ## The end of a probe step -/

/-- The report of a sense write sets or clears PROBE (R130, R170). -/
theorem ProtSound.reportSense (w : SenseWrite) (ok : Bool) : ProtSound (reportSense w ok s) := fun i => by
  rw [tile_reportSense]
  split
  · cases ok with
    | true => exact (h i).withProbe (Cond.clear_sound _) _ _
    | false => exact (h i).withProbe (Cond.raise_sound _) _ _
  · exact h i

theorem ProtSound.startQueue (ws : List SenseWrite) : ProtSound (startQueue ws s) := by
  induction ws generalizing s with
  | nil => exact h
  | cons w ws ih =>
    unfold Machine.startQueue
    split
    · exact h
    · exact ih (h.reportSense w false)

theorem ProtSound.handOver (i : Slot) : ProtSound (handOver i s) := by
  have hhand : ∀ w v, ProtSound v → ProtSound (handSenseWrite w v) := fun w v hv => .ite hv (hv.startQueue _)
  unfold Machine.handOver
  dsimp only
  split
  · exact h
  · split
    · exact h.failTile _ _ _
    · split
      · exact h.failTile _ _ _
      · split
        · exact h.failTile _ _ _
        · exact hhand _ _ h

theorem ProtSound.endProbeStep (i : Slot) (c : Chan) (e : ProbeEnd) : ProtSound (endProbeStep i c e s) := by
  have hsettle : ProtSound (settleProbe i c e s) := by
    unfold settleProbe
    split
    · exact h
    · split
      · exact h.endSweep _ _
      · split
        · exact .ite h (h.handOver i)
        · exact h.failTile _ _ _
        · exact h.failTile _ _ _
        · exact h
  exact hsettle.completePollPhase

theorem ProtSound.senseReplied (i : Slot) (c : Chan) (r count : Nat) : ProtSound (senseReplied i c r count s) := by
  unfold Machine.senseReplied
  split
  · exact h
  · split <;> exact h

/-! ## Replies and misses -/

theorem ProtSound.missAt (i : Slot) : ProtSound (missAt i s) := h.putTile i (protSound_countMiss (h i) _)

/-- A reply that changes the slot record alone. -/
theorem ProtSound.putChain (i : Slot) (x : SlotRec) : ProtSound (s.putTile i ((s.tile i).setChain x)) :=
  h.putTile i (x := (s.tile i).setChain x) (h i)

theorem ProtSound.pollReplied (i : Slot) (temp : Option Int) (fault : Bool) (hours load : Nat) (echo : RGB Nat) :
    ProtSound (pollReplied i temp fault hours load echo s) := by
  rw [pollReplied_eq]
  exact h.putTile i ((flagsSound_pollState (flagsSound_arrived s i temp fault hours load echo (h i).flags) _).settleTile _ _ _)

/-! ## Binding and enumeration -/

theorem ProtSound.tryBind (i : Slot) : ProtSound (tryBind i s) := by
  rcases tryBind_cases s i with ⟨k, w, e⟩ | ⟨why, w, e⟩ <;> rw [e]
  · exact h.putTile i (by rw [succeedBinding_prot]; exact h i)
  · exact h.putTile i (by rw [failBinding_eq]; exact h i)

theorem ProtSound.adoptReplied (i : Slot) (serial : Serial) : ProtSound (adoptReplied i serial s) :=
  .ite (h.putTile i (protSound_lostAnswered (t := (s.tile i).setChain
      { (s.tile i).chain with missCount := 0, confirmed := some (RGB.all 0) }) (h i) _))
    ((h.putTile i (x := joinFresh _ _) protSound_fresh).tryBind i)

theorem ProtSound.endRelearn (v : Verdict) (why : Option Reason) (d : ResultData) : ProtSound (endRelearn v why d s) := by
  rw [endRelearn_frame]
  exact h

theorem ProtSound.bindEnumerated (n : Nat) : ProtSound (bindEnumerated n s) := by
  unfold Machine.bindEnumerated
  exact h.foldl (fun u x hu => .ite (hu.tryBind x) hu) _

theorem ProtSound.abortEnumeration (n : Nat) : ProtSound (abortEnumeration n s) :=
  ProtSound.endRelearn (s := leaveEnumeration (Machine.bindEnumerated n s)) (h.bindEnumerated n) _ _ _

theorem ProtSound.completeEnumeration (n : Nat) (long : Bool) : ProtSound (completeEnumeration n long s) := by
  have hbound := ProtSound.bindEnumerated
    (s := (s.setChain { s.chain with chainLong := long }).noticeAll { cond := long }) h 64
  unfold Machine.completeEnumeration
  dsimp only at hbound ⊢
  generalize Machine.bindEnumerated 64 _ = u at hbound ⊢
  exact ProtSound.endRelearn (s := leaveEnumeration (u.setChain { u.chain with tileCount := n })) hbound _ _ _

theorem ProtSound.enumReplied (n : Nat) (serial : Serial) : ProtSound (enumReplied n serial s) := by
  unfold Machine.enumReplied
  split
  · exact h.completeEnumeration _ _
  · rename_i i _
    have htile : ProtSound (notify s (s.putTile i (enumTile s.protSet.lostPolicy serial (s.tile i)))) :=
      h.putTile i (protSound_enumTile (h i) _ _)
    exact .ite (htile.abortEnumeration _) htile

theorem ProtSound.enumUnanswered (n : Nat) : ProtSound (enumUnanswered n s) := by
  have hvacated : ProtSound (vacateFrom n s) := h.mapIdxTiles fun i t ht => by
    split
    · exact protSound_fresh
    · exact ht
  unfold Machine.enumUnanswered
  split
  · exact h.completeEnumeration _ _
  · exact .ite (h.abortEnumeration n) (hvacated.completeEnumeration _ _)

/-! ## The store -/

theorem ProtSound.completeWrite (w : StoreWrite) : ProtSound (completeWrite w s) := by
  have hbound : ProtSound (w.op.bound s) := h.of_same (bound_prot w.op s)
  have hreport : ProtSound (w.op.report w.issuer s (w.op.bound s)) := by
    unfold WriteOp.report
    split
    case h_1 => exact hbound.reportSense _ _
    case h_2 | h_3 | h_4 | h_5 => exact hbound.finish _ _ _
    case h_6 | h_7 | h_8 | h_9 => exact hbound
  rw [completeWrite_eq]
  exact hreport.startQueue _

/-! ## Time -/

theorem ProtSound.passAuthority (why : LastChange) : ProtSound (passAuthority why s) := by
  rw [passAuthority_frame]
  exact h

theorem ProtSound.expireTimer (q : Prog) : ProtSound (expireTimer q s) :=
  .ite (ProtSound.passAuthority (s := s.setAuth (s.auth.setTimer q .expired)) h _) h

/-- The release of an action leaves the flags, and P is settled on the actions that stay in force (R132, R134). -/
theorem ProtSound.expireRetry (i : Slot) (cls : TimedClass) : ProtSound (expireRetry i cls s) := by
  have hreleased : ((s.tile i).prot.releaseAct cls).FlagsSound := by
    cases cls <;> exact { (h i).flags with }
  refine protSound_putTile (fun j hj => ?_) ?_
  · rw [State.tile_putTile_other _ _ _ _ hj]
    exact h j
  · rw [State.tile_putTile_same]
    exact ProtRec.FlagsSound.settleTile (t := (s.tile i).setProt _) hreleased _ _ _

theorem ProtSound.tick : ProtSound (tick s) := by
  have haged : ProtSound s.aged := ProtSound.mapTiles (s := s.setAuth _) (f := Tile.aged) h fun _ ht => ht.aged
  have hlive : ∀ q u, ProtSound u → ProtSound (expireDue q u) := fun q u hu => .ite (hu.expireTimer q) hu
  have hretry : ∀ u x, ProtSound u → ProtSound (retryDue u x) := fun u x hu => .ite (hu.expireRetry _ _) hu
  have hchain : ∀ u, ProtSound u → ProtSound (chainDue u) := fun u hu => .ite hu (.ite hu.startRound hu)
  exact .ite h (hchain _ ((hlive _ _ (hlive _ _ haged)).foldl hretry _))

/-! ## Requests -/

theorem ProtSound.cutSweep (v : Verdict) (why : Option Reason) : ProtSound (cutSweep v why s) := by
  obtain ⟨c, e⟩ := cutSweep_eq s v why
  rw [e]
  exact ProtSound.endSweep (s := s.setChain c) h _ _

theorem ProtSound.preempt : ProtSound (preempt s) := by
  unfold Machine.preempt
  split
  · exact h.cutSweep _ _
  · exact h
  · exact h

theorem ProtSound.sweepRequest (p : Port) (x : SweepParams) : ProtSound (doSweep p x s) := .ite h h.preempt

theorem ProtSound.relearnRequest (p : Port) (u : Unit) : ProtSound (doRelearn p u s) := .ite h.preempt h.preempt

theorem ProtSound.abort (p : Port) : ProtSound (doAbort p s) := by
  unfold doAbort
  split
  · exact h
  · refine .ite h ?_
    unfold abortRequest
    split
    · exact h
    · exact .ite h (h.endSweep _ _)
    · exact .ite h (h.endRelearn _ _ _)
    · exact h

theorem ProtSound.claim (p : Port) (wait : Bool) : ProtSound (doClaim p wait s) := by
  unfold doClaim
  split
  · unfold claimBy
    split
    · exact h
    · exact .ite h (.ite h h)
  · exact h

theorem ProtSound.reformAll : ProtSound (reformAll s) := h.mapTiles fun _ ht => by rwa [formTile_prot]

/-- A change of M re-forms every slot, and may end a sweep (R174, R185). -/
theorem ProtSound.setShow (p : Port) (x : ShowBlock) : ProtSound (doSetShow p x s) := by
  have hm : ∀ old u, ProtSound u → ProtSound (showM old u) := fun _ _ hu => .ite hu (.ite (hu.reformAll.cutSweep _ _) hu.reformAll)
  have hw : ∀ old u, ProtSound u → ProtSound (showWant old u) := fun _ _ hu => .ite hu hu
  have ht : ∀ old u, ProtSound u → ProtSound (showTimeout old u) := fun _ _ hu => .ite hu hu
  exact ht _ _ (hw _ _ (hm _ (s.setShowRec _) h))

theorem ProtSound.freeze (p : Port) (k : Key) : ProtSound (doFreeze p k s) := by
  unfold doFreeze
  split
  · exact h
  · exact .ite h h

theorem ProtSound.thaw (p : Port) (k : Key) : ProtSound (doThaw p k s) := by
  unfold doThaw
  split
  · exact h
  · exact .ite h h

theorem ProtSound.setBudgetRequest (p : Port) (x : BudgetBlock) : ProtSound (doSetBudget p x s) :=
  ProtSound.ite (s := s.setBudget _) h (ProtSound.reformAll (s := s.setBudget _) h)

theorem ProtSound.setTrack (p : Port) (x : TrackBlock) : ProtSound (doSetTrack p x s) :=
  .ite (h.putTile x.slot (by rw [(trackTile_frame x _ _ _).2.1]; exact h x.slot)) h

theorem ProtSound.setTempRequest (p : Port) (x : TempBlock) : ProtSound (doSetTemp p x s) := h.of_same fun i => by
  rw [tile_doSetTemp]
  rfl

/-- Every slot is brought into line and P settled (R134, R137, R138). -/
theorem ProtSound.setProtect (p : Port) (x : ProtBlock) : ProtSound (doSetProtect p x s) := by
  unfold doSetProtect
  refine protSound_settleAll s (s := State.setTiles _ (Table.map _ _)) fun i => ?_
  rw [State.tile_setTiles, Table.get_map]
  exact (h i).flags.alignProt _ _

/-- Every covered slot is acknowledged and P settled (R134, R141). -/
theorem ProtSound.clearFaults (p : Port) (target : Option Slot) : ProtSound (doClearFaults p target s) := by
  refine .ite h (protSound_settleAll s (s := State.setBudget (State.setTiles _ (Table.mapIdx _ _)) _) fun i => ?_)
  rw [State.tile_setBudget, State.tile_setTiles, Table.get_mapIdx]
  split
  · exact flagsSound_clearTile (h i).flags _
  · exact (h i).flags

theorem ProtSound.putProfile (p : Port) (x : PutBlock) : ProtSound (doPutProfile p x s) := by
  have hput : ∀ k, ProtSound (putAt p k x s) := by
    intro k
    unfold putAt
    split <;> exact h
  unfold doPutProfile
  split
  · exact h
  · split
    · split
      · exact h
      · exact hput _
    · exact hput _

/-! ## Resets -/

omit h

theorem protSound_of_fill (h : s.tiles = Table.fill 64 {}) : ProtSound s := fun i => by
  rw [tile_of_fill s h i]
  exact protSound_fresh

theorem protSound_restartChain (s : State) (p : Port) (u : Unit) : ProtSound (doRestartChain p u s) :=
  protSound_of_fill (s := restartEffects s) (by rw [restartEffects_eq])

theorem protSound_underReset (cut : List CutOutcome) (s : State) : ProtSound (underReset cut s) := protSound_of_fill rfl

end Sys2Proof.Machine
end

section
/-! PROOFS. Every command keeps the flags and the factor of every slot sound (R124, R134), and the step lemma. -/

namespace Sys2Proof.Machine

variable {s : State}

theorem ProtSound.transaction (h : ProtSound s) {p : Port} {f : State → State} (hf : ∀ u, ProtSound u → ProtSound (f u)) :
    ProtSound (transaction p f s) := by
  refine .ite h (hf _ ?_)
  rw [touch_eq]
  exact h

/-- A POST moves ports and timers beside what its own effect moves (R178, R193). -/
theorem ProtSound.posted {α : Type} (h : ProtSound s) {n : ReqName} {p : Port} {x : Option α} {f : α → State → State}
    (hf : ∀ v u, ProtSound u → ProtSound (f v u)) : ProtSound (posted n p x f s) :=
  posted_keeps s (fun _ _ hu => hu) (fun _ _ hu => hu) hf h

/-- Each transaction of a port. -/
theorem ProtSound.of_transactionCommand (h : ProtSound s) (c : Instr) (hc : transactionOn c ≠ none) :
    ∃ t, exec c s = .next t ∧ ProtSound t := by
  cases c with
  | status p | read p kind i0 i1 | result p | discardedTransaction p => exact ⟨_, rfl, h.transaction fun _ hu => hu⟩
  | abort p => exact ⟨_, rfl, h.transaction fun _ hu => hu.abort p⟩
  | claim p b => exact ⟨_, rfl, h.posted fun v _ hu => hu.claim p v⟩
  | release p b => exact ⟨_, rfl, h.posted fun _ _ hu => hu.passAuthority .release⟩
  | setShow p b => exact ⟨_, rfl, h.posted fun v _ hu => hu.setShow p v⟩
  | freeze p b => exact ⟨_, rfl, h.posted fun v _ hu => hu.freeze p v⟩
  | thaw p b => exact ⟨_, rfl, h.posted fun v _ hu => hu.thaw p v⟩
  | setBudget p b => exact ⟨_, rfl, h.posted fun v _ hu => hu.setBudgetRequest p v⟩
  | putProfile p b => exact ⟨_, rfl, h.posted fun v _ hu => hu.putProfile p v⟩
  | dropProfile p b => exact ⟨_, rfl, h.posted fun _ _ hu => .ite hu (.ite hu (.ite hu hu))⟩
  | putMap p b => exact ⟨_, rfl, h.posted fun _ _ hu => .ite hu (.ite hu hu)⟩
  | clearMap p b => exact ⟨_, rfl, h.posted fun _ _ hu => .ite hu hu⟩
  | setTrack p b => exact ⟨_, rfl, h.posted fun v _ hu => hu.setTrack p v⟩
  | setSlew p b | setNotice p b => exact ⟨_, rfl, h.posted fun _ _ hu => hu⟩
  | setTemp p b => exact ⟨_, rfl, h.posted fun v _ hu => hu.setTempRequest p v⟩
  | setProtect p b => exact ⟨_, rfl, h.posted fun v _ hu => hu.setProtect p v⟩
  | clearFaults p b => exact ⟨_, rfl, h.posted fun v _ hu => hu.clearFaults p v⟩
  | sweep p b => exact ⟨_, rfl, h.posted fun v _ hu => hu.sweepRequest p v⟩
  | relearn p b => exact ⟨_, rfl, h.posted fun v _ hu => hu.relearnRequest p v⟩
  | restartChain p b => exact ⟨_, rfl, h.posted fun v u _ => protSound_restartChain u p v⟩
  | unknownRequestPost p code b => exact ⟨_, rfl, .ite h (h.transaction fun _ hu => .ite hu hu)⟩
  | _ => exact absurd rfl hc

/-- An event keeps what its effect keeps: the notices at its end reach the ports alone (R145). -/
theorem ProtSound.event {f : State → State} (h : ProtSound (f s)) : ProtSound (event f s) := h

/-- Each reply, window expiry, timer, start, store-write completion and reset. -/
theorem ProtSound.of_chainCommand (h : ProtSound s) (c : Instr) (hc : transactionOn c = none) :
    ∃ t, exec c s = .next t ∧ ProtSound t := by
  cases c with
  | hardReset cause cut =>
    cases cause with
    | powerUp => exact ⟨_, rfl, protSound_underReset cut s⟩
    | resetnLow => exact ⟨_, rfl, protSound_underReset cut s⟩
  | resetnRelease => exact ⟨_, rfl, .ite h h⟩
  | roundStart => exact ⟨_, rfl, .ite h.startRound h⟩
  | relearnEnumerationStart => exact ⟨_, rfl, .ite h h⟩
  | livenessTimerExpiry q => exact ⟨_, rfl, .ite (h.expireTimer q) h⟩
  | retryTimerExpiry i cls => exact ⟨_, rfl, .ite (h.expireRetry i cls) h⟩
  | pollReply temp fault hours load echo =>
    refine ⟨_, rfl, ?_⟩
    split
    · exact .ite ((h.pollReplied _ temp fault hours load echo).pollFrom _) h
    · exact h
  | pollMiss =>
    refine ⟨_, rfl, ?_⟩
    split
    · exact (h.missAt _).pollFrom _
    · exact h
  | pushReply echo =>
    refine ⟨_, rfl, ?_⟩
    split
    · exact .ite ((h.putChain _ _).pushFrom _) h
    · exact h
  | pushMiss =>
    refine ⟨_, rfl, ?_⟩
    split
    · exact (h.missAt _).pushFrom _
    · exact h
  | adoptReply serial =>
    refine ⟨_, rfl, ?_⟩
    split
    · exact (h.adoptReplied _ serial).probePhase
    · exact h
  | adoptNoReply =>
    refine ⟨_, rfl, ?_⟩
    split
    · exact h.probePhase
    · exact h
  | enumReply serial =>
    refine ⟨_, rfl, ?_⟩
    split
    · exact h.enumReplied _ serial
    · exact h
  | enumNoReply =>
    refine ⟨_, rfl, ?_⟩
    split
    · exact h.enumUnanswered _
    · exact h
  | patchReply =>
    refine ⟨_, rfl, ?_⟩
    split
    · exact ProtSound.event (.ite (h.putChain _ _) (h.putChain _ _))
    · exact (h.putChain _ _).endProbeStep _ _ _
    · exact h
  | patchMiss =>
    refine ⟨_, rfl, ?_⟩
    split
    · exact h.missAt _
    · exact (h.missAt _).endProbeStep _ _ _
    · exact h
  | settleWaitEnd =>
    refine ⟨_, rfl, ?_⟩
    split
    · exact .ite h h
    · exact h
  | senseReply status count =>
    refine ⟨_, rfl, ?_⟩
    split
    · exact .ite ((h.putChain _ _).senseReplied _ _ _ _) h
    · exact h
  | senseMiss =>
    refine ⟨_, rfl, ?_⟩
    split
    · exact h.missAt _
    · exact h
  | storeWriteComplete =>
    refine ⟨_, rfl, ?_⟩
    split
    · exact h.completeWrite _
    · exact h
  | _ => simp [transactionOn] at hc

theorem exec_protSound (h : ProtSound s) (c : Instr) : ∃ t, exec c s = .next t ∧ ProtSound t := by
  by_cases hc : transactionOn c = none
  · exact h.of_chainCommand c hc
  · exact h.of_transactionCommand c hc

end Sys2Proof.Machine

open Sys2Proof Sys2Proof.Machine

/-- Settles O55: the flags are set and cleared by operations that keep a latched flag beside an active one, and each event that can
change the actions in force ends with P settled. -/
theorem stepKeepsFlagsAndFactors : Obligations.StepKeepsFlagsAndFactors := by
  intro s t hflags hfactor hstep
  have h : ProtSound s := (protSound_iff s).mpr ⟨hflags, hfactor⟩
  refine (protSound_iff t).mp ?_
  unfold step at hstep
  split at hstep
  · rename_i c rest _
    obtain ⟨u, hu, hsound⟩ := exec_protSound (s := s.setPending rest) h c
    rw [hu] at hstep
    cases hstep
    exact hsound
  · cases hstep
    exact h.tick

end

section
/-! PROOFS. The rows of R131's table, and the sources, samples and conditions of an arrival (R58, R64 to R74, R125 to R127). -/

namespace Sys2Proof.Machine

/-! ## The rows of the table -/

section Table

variable (c : ClassSettings) {x : Cond} {a : Act}

theorem Cond.found_of_active (h : x.cond = true) : x.found c = x := if_pos h

theorem Cond.found_of_reported (hx : x.cond = false) (hm : c.mode ≠ .off) : x.found c = ⟨true, true, true⟩ := by
  rw [Cond.found, hx, if_neg Bool.false_ne_true, if_neg hm]
  rfl

theorem Cond.found_of_off (hx : x.cond = false) (hm : c.mode = .off) : x.found c = { x with cond := true } := by
  rw [Cond.found, if_neg (by rw [hx]; exact Bool.false_ne_true), if_pos hm]

theorem Act.found_of_inForce (h : a.kind ≠ .none) : a.found c = a := by
  rw [Act.found, Act.startIfNone, if_neg h, ite_self]

theorem Act.found_of_unheld (h : c.mode = .report ∨ c.mode = .off) : a.found c = a :=
  if_neg (by rcases h with h | h <;> simp [h])

theorem Act.found_of_latched (hm : c.mode = .latched) (ha : a.kind = .none) :
    a.found c = ⟨c.action.inForce, if c.action = .dim then some c.dim else none, none⟩ := by
  rw [Act.found, if_pos (.inl hm), Act.startIfNone, if_pos ha, Act.start, hm]
  rfl

theorem Act.found_of_retry (hm : c.mode = .retry) (ha : a.kind = .none) :
    a.found c = ⟨c.action.inForce, if c.action = .dim then some c.dim else none, some (c.retry * 1000)⟩ := by
  rw [Act.found, if_pos (.inr hm), Act.startIfNone, if_pos ha, Act.start, hm]
  rfl

end Table

/-- Between its two thresholds a condition is as it was, from the upper one on it is ACTIVE, and from the lower one down it is not
(R125, R126). -/
theorem hysteresis_eq (was : Bool) (v hi lo : Int) :
    hysteresis was v hi lo = (decide (hi ≤ v) || (was && decide (lo < v))) := by
  unfold hysteresis
  by_cases hhi : hi ≤ v
  · simp [hhi]
  · by_cases hlo : v ≤ lo
    · simp [hhi, hlo]
    · simp [hhi, hlo, not_le.mp hlo]

/-! ## OVERHEAT on the reading -/

section Reading

variable (x : TempSettings) (own : Option Int) (r : ProtRec)

/-- A reading leaves SENSOR and HOT (R126). -/
theorem afterReading_frame : (r.afterReading x own).sensor = r.sensor ∧ (r.afterReading x own).sensorAct = r.sensorAct
    ∧ (r.afterReading x own).hot = r.hot ∧ (r.afterReading x own).hotAct = r.hotAct := by
  cases own <;> exact ⟨rfl, rfl, rfl, rfl⟩

theorem overheatJudged_afterReading : OverheatJudged x own r (r.afterReading x own) := by
  refine ⟨fun h => ?_, fun v h => ?_⟩ <;> subst h
  · exact ⟨rfl, rfl⟩
  · simp only [ProtRec.afterReading, judgeOverheat, hysteresis_eq]
    refine ⟨fun hhi => ?_, fun hhi hlo => ?_, fun hhi hlo => ?_⟩
    · simp [hhi, Cond.raise]
    · simp [not_le.mpr hhi, not_lt.mpr hlo, Cond.clear]
    · cases hwas : r.overheat.cond <;> simp [not_le.mpr hhi, hlo, Cond.raise, Cond.clear]

end Reading

/-- OVERHEAT alone is judged, so a record that agrees on it is judged alike. -/
theorem OverheatJudged.of_same {x : TempSettings} {own : Option Int} {r q q' : ProtRec} (h : OverheatJudged x own r q)
    (hc : q'.overheat = q.overheat) (hb : q'.overheatBlank = q.overheatBlank) : OverheatJudged x own r q' := by
  unfold OverheatJudged at h ⊢
  rw [hc, hb]
  exact h

/-! ## The sources -/

theorem validReading_iff {r : TempRec} {v : Int} : r.validReading = some v ↔ r.ownValid = true ∧ r.own = .value v := by
  unfold TempRec.validReading
  cases r.ownValid <;> cases r.own <;> simp

/-- The neighbouring position of R58 lies next in the direction. -/
theorem neighbourPos_iff {x : Source} {d : Direction} (hx : x.direction = some d) {a b : Pos} :
    neighbourPos a d = some b ↔ NextTo x a b := by
  obtain ⟨ac, ar⟩ := a
  obtain ⟨bc, br⟩ := b
  have hhi : bc.val < 16 ∧ br.val < 16 := ⟨bc.isLt, br.isLt⟩
  cases x with
  | own | ambient | fixed => cases hx
  | north | east | south | west =>
    cases hx
    simp only [neighbourPos, NextTo, Option.dite_none_right_eq_some, exists_prop, Option.some.injEq, Pos.mk.injEq, Fin.ext_iff,
      reduceCtorEq, false_and, true_and, false_or, or_false]
    omega

/-- No position lies next to itself (R58). -/
theorem NextTo.ne {x : Source} {a b : Pos} (h : NextTo x a b) : b ≠ a := by
  rintro rfl
  unfold NextTo at h
  omega

/-- A neighbour lookup finds the slot that the entry next to the slot's own place names (R58). -/
theorem neighbour_slot_iff {u : State} {i m : Slot} {d : Direction} : neighbour u i d = .slot m
    ↔ ∃ a b, u.inverse.get i = some a ∧ neighbourPos a d = some b ∧ u.store.entry b = some m := by
  unfold neighbour
  cases hplace : u.inverse.get i with
  | none => simp
  | some a =>
    cases hpos : neighbourPos a d with
    | none => simp [hpos]
    | some b => cases hentry : u.store.entry b <;> simp [hpos, hentry]

/-- What a neighbour lends is its own valid reading, while it is ACTIVE (R67, R68). -/
theorem borrowed_iff {u : State} {i : Slot} {d : Direction} {v : Int} {n : Option Slot} :
    borrowed u i d = some ⟨v, n⟩ ↔ ∃ m, neighbour u i d = .slot m ∧ n = some m ∧ (u.tile m).chain.state = .active
      ∧ (u.tile m).temp.validReading = some v := by
  unfold borrowed
  cases neighbour u i d with
  | unmapped | edge | empty => simp
  | slot m =>
    by_cases hactive : (u.tile m).chain.state = .active
    · simp [hactive, and_comm, eq_comm]
    · simp [hactive]

/-- A source that is no direction lends nothing. -/
theorem unlent_iff {o : Option Int} {v : Int} {n : Option Slot} :
    (o.map fun t => (⟨t, none⟩ : Sample)) = some ⟨v, n⟩ ↔ o = some v ∧ n = none := by
  cases o <;> simp [eq_comm]

section Selection

variable {s u : State} {i : Slot} {own : Option Int} (hreset : s.inReset = false) (hmap : MapInv s) (hline : InverseInv s)

include hreset hmap hline in
/-- No slot is its own neighbour (R51, R54, R58). -/
theorem neighbour_ne {m : Slot} {d : Direction} {x : Source} (hx : x.direction = some d) (h : neighbour s i d = .slot m) :
    m ≠ i := by
  rintro rfl
  obtain ⟨a, b, hplace, hpos, hentry⟩ := neighbour_slot_iff.mp h
  exact ((neighbourPos_iff hx).mp hpos).ne (hmap.1 b a m hentry ((hline hreset m a).mp hplace))

/-- The part as an arrival at slot `i` finds it once its reading `own` is taken: of the other slots, the map and the show record it
has moved nothing, and of its own slot no profile. -/
structure ReadAt (s u : State) (i : Slot) (own : Option Int) : Prop where
  inverse : u.inverse = s.inverse
  store : u.store = s.store
  showRec : u.showRec = s.showRec
  other : ∀ j, j ≠ i → u.tile j = s.tile j
  held : (u.tile i).held = (s.tile i).held
  own : (u.tile i).temp.validReading = own

variable (h : ReadAt s u i own)
include hreset hmap hline h

/-- A direction gives what the neighbouring slot of the map lends (R58, R67, R68). -/
theorem borrowed_iff_available {x : Source} {d : Direction} (hx : x.direction = some d) {v : Int} {n : Option Slot} :
    borrowed u i d = some ⟨v, n⟩ ↔ Available s i own x v n := by
  have hsame : neighbour u i d = neighbour s i d := by
    unfold neighbour
    rw [h.inverse, h.store]
  have hdirect : Available s i own x v n ↔ ∃ a b m, NextTo x a b ∧ s.inverse.get i = some a ∧ s.store.entry b = some m ∧ n = some m
      ∧ (s.tile m).chain.state = .active ∧ (s.tile m).temp.ownValid = true ∧ (s.tile m).temp.own = .value v := by
    unfold Available
    cases x with
    | own | ambient | fixed => cases hx
    | north | east | south | west => simp only [reduceCtorEq, false_and, false_or]
  rw [borrowed_iff, hsame, hdirect]
  constructor
  · rintro ⟨m, hm, hn, hactive, hreading⟩
    obtain ⟨a, b, hplace, hpos, hentry⟩ := neighbour_slot_iff.mp hm
    rw [h.other m (neighbour_ne hreset hmap hline hx hm)] at hactive hreading
    exact ⟨a, b, m, (neighbourPos_iff hx).mp hpos, hplace, hentry, hn, hactive, validReading_iff.mp hreading⟩
  · rintro ⟨a, b, m, hnext, hplace, hentry, hn, hactive, hreading⟩
    have hm : neighbour s i d = .slot m := neighbour_slot_iff.mpr ⟨a, b, hplace, (neighbourPos_iff hx).mpr hnext, hentry⟩
    rw [← h.other m (neighbour_ne hreset hmap hline hx hm)] at hactive hreading
    exact ⟨m, hm, hn, hactive, validReading_iff.mpr hreading⟩

theorem sourceGives_iff {x : Source} {v : Int} {n : Option Slot} :
    sourceGives u i x = some ⟨v, n⟩ ↔ Available s i own x v n := by
  cases x with
  | own =>
    simp only [sourceGives, h.own, unlent_iff, Available, NextTo, reduceCtorEq, false_and, true_and, or_false, exists_false]
  | ambient =>
    simp only [sourceGives, h.showRec, unlent_iff, Available, NextTo, reduceCtorEq, false_and, true_and, or_false, false_or,
      exists_false]
  | fixed =>
    simp only [sourceGives, h.held, Available, NextTo, reduceCtorEq, false_and, true_and, or_false, false_or, exists_false,
      Option.some.injEq, Sample.mk.injEq, eq_comm]
  | north | east | south | west => exact borrowed_iff_available hreset hmap hline h rfl

/-- The selection is the primary where that is available, and else the fallback where that is (R69). -/
theorem selectSource_iff {x : Source} {role : Role} {v : Int} {n : Option Slot} :
    selectSource u i = some ⟨x, role, v, n⟩ ↔ Selected s i own x role v n := by
  have hgives : ∀ (x : Source) (v : Int) (n : Option Slot), sourceGives u i x = some ⟨v, n⟩ ↔ Available s i own x v n :=
    fun _ _ _ => sourceGives_iff hreset hmap hline h
  unfold selectSource Selected
  simp only [h.held, ← hgives]
  cases hprimary : sourceGives u i (s.tile i).held.groups.tempSource.primary with
  | none =>
    rw [Option.map_eq_some_iff]
    constructor
    · rintro ⟨z, hz, e⟩
      cases e
      exact .inr ⟨nofun, rfl, rfl, hz⟩
    · rintro (⟨rfl, _, hx⟩ | ⟨_, rfl, rfl, hx⟩)
      · cases hprimary.symm.trans hx
      · exact ⟨_, hx, rfl⟩
  | some z =>
    constructor
    · intro e
      cases e
      exact .inl ⟨rfl, rfl, hprimary⟩
    · rintro (⟨rfl, rfl, hx⟩ | ⟨hnone, _⟩)
      · rw [hprimary] at hx
        cases hx
        rfl
      · exact absurd rfl (hnone z.temp z.lending)

end Selection

/-! ## The temperature record -/

section Sample

variable (w : Nat) (v : Int) {r : TempRec}

/-- The selection replaces the source in use, and empties the accumulator where that has changed (R69). -/
theorem applySelection_spec (sel : Option Selection) (r : TempRec) : (applySelection sel r).source = inUse sel
    ∧ (applySelection sel r).role = sel.map (·.role) ∧ (applySelection sel r).lending = sel.bind (·.sample.lending)
    ∧ (applySelection sel r).teff = r.teff ∧ (applySelection sel r).lastSample = r.lastSample
    ∧ (r.source = .absent ∨ r.source = inUse sel → (applySelection sel r).sum = r.sum ∧ (applySelection sel r).count = r.count)
    ∧ (r.source ≠ .absent → r.source ≠ inUse sel → (applySelection sel r).sum = 0 ∧ (applySelection sel r).count = 0) := by
  by_cases hchanged : r.source ≠ .absent ∧ r.source ≠ inUse sel
  · unfold applySelection
    dsimp only
    rw [if_pos hchanged]
    exact ⟨rfl, rfl, rfl, rfl, rfl, fun h => (h.elim hchanged.1 hchanged.2).elim, fun _ _ => ⟨rfl, rfl⟩⟩
  · unfold applySelection
    dsimp only
    rw [if_neg hchanged]
    exact ⟨rfl, rfl, rfl, rfl, rfl, fun _ => ⟨rfl, rfl⟩, fun h h' => absurd ⟨h, h'⟩ hchanged⟩

/-- The first sample seeds Teff (R71). -/
theorem takeSample_seed (h : r.teff = none) : takeSample w v r = ({ r with lastSample := some v, teff := some v }, true) := by
  simp only [takeSample, h]

/-- The mean of a full block whose samples add up to `sum` (R72). -/
def blockMean (w : Nat) (sum v : Int) : Int := if w = 0 then v else (sum + v + 2 ^ (w - 1)) / 2 ^ w

/-- The sample that fills its block writes the block's mean, and the next block is empty (R72). -/
theorem takeSample_full (h : r.teff ≠ none) (hfull : r.count + 1 = 2 ^ w) : takeSample w v r
    = ({ r with lastSample := some v, teff := some (blockMean w r.sum v), sum := 0, count := 0 }, true) := by
  obtain ⟨e, he⟩ := Option.ne_none_iff_exists'.mp h
  simp only [takeSample, he, if_pos hfull, blockMean, divDown]
  rw [Int.fdiv_eq_ediv_of_nonneg _ (Int.natCast_nonneg _), Nat.cast_pow, Nat.cast_pow, Nat.cast_ofNat]

/-- Any other sample enters its block, and Teff stands (R72). -/
theorem takeSample_within (h : r.teff ≠ none) (hpart : r.count + 1 ≠ 2 ^ w) : takeSample w v r
    = ({ r with lastSample := some v, sum := r.sum + v, count := r.count + 1 }, false) := by
  obtain ⟨e, he⟩ := Option.ne_none_iff_exists'.mp h
  simp only [takeSample, he, if_neg hpart]

/-- A sample leaves the selection, and is the last sample from then on (R63). -/
theorem takeSample_frame (r : TempRec) : (takeSample w v r).1.source = r.source ∧ (takeSample w v r).1.role = r.role
    ∧ (takeSample w v r).1.lending = r.lending ∧ (takeSample w v r).1.lastSample = some v := by
  by_cases h : r.teff = none
  · rw [takeSample_seed w v h]
    exact ⟨rfl, rfl, rfl, rfl⟩
  · by_cases hfull : r.count + 1 = 2 ^ w
    · rw [takeSample_full w v h hfull]
      exact ⟨rfl, rfl, rfl, rfl⟩
    · rw [takeSample_within w v h hfull]
      exact ⟨rfl, rfl, rfl, rfl⟩

theorem newTeff_seed (h : r.teff = none) : newTeff w v r = some v := by
  rw [newTeff, takeSample_seed w v h]
  rfl

theorem newTeff_full (h : r.teff ≠ none) (hfull : r.count + 1 = 2 ^ w) : newTeff w v r = some (blockMean w r.sum v) := by
  rw [newTeff, takeSample_full w v h hfull]
  rfl

theorem newTeff_within (h : r.teff ≠ none) (hpart : r.count + 1 ≠ 2 ^ w) : newTeff w v r = none := by
  rw [newTeff, takeSample_within w v h hpart]
  rfl

end Sample

/-! ## SENSOR and HOT at an arrival -/

section Judged

variable (c : ProtSettings) (x : TempSettings) (noSource : Bool) (e : Option Int) (r : ProtRec)

/-- SENSOR is evaluated on whether a source is selected (R70, R127). -/
theorem sensor_afterSample : evalClass c.sensor noSource r.sensor r.sensorAct
    = ((r.afterSample c x noSource e).sensor, (r.afterSample c x noSource e).sensorAct) := by
  cases e <;> rfl

/-- HOT is evaluated on a new Teff (R74, R125). -/
theorem hotJudged_afterSample (v : Int) : HotJudged c.hot x v r (r.afterSample c x noSource (some v)) := by
  unfold HotJudged
  rw [← hysteresis_eq]
  rfl

/-- The sample leaves OVERHEAT. -/
theorem overheat_afterSample : (r.afterSample c x noSource e).overheat = r.overheat
    ∧ (r.afterSample c x noSource e).overheatBlank = r.overheatBlank := by
  cases e <;> exact ⟨rfl, rfl⟩

end Judged

/-- HOT alone is judged, so records that agree on it are judged alike. -/
theorem HotJudged.of_same {c : ClassSettings} {x : TempSettings} {e : Int} {r r' q q' : ProtRec} (h : HotJudged c x e r q)
    (hc : r'.hot = r.hot) (ha : r'.hotAct = r.hotAct) (hc' : q'.hot = q.hot) (ha' : q'.hotAct = q.hotAct) :
    HotJudged c x e r' q' := by
  unfold HotJudged at h ⊢
  rw [hc, ha, hc', ha']
  exact h

/-! ## The tile after the reply -/

/-- What of a tile's protection record a POLL reply leaves as its arrival made it: all but LOST and P, which the change of state and
the settling of P move, and SHORT and PROBE, which the rest of the round may move. -/
structure Arrived (q y : ProtRec) : Prop where
  hot : y.hot = q.hot
  hotAct : y.hotAct = q.hotAct
  sensor : y.sensor = q.sensor
  sensorAct : y.sensorAct = q.sensorAct
  overheat : y.overheat = q.overheat
  overheatBlank : y.overheatBlank = q.overheatBlank
  factor : y.p = protFactor y

theorem exec_pollReply {i : Slot} {temp : Option Int} {fault : Bool} {hours load : Nat} {echo : RGB Nat} {s : State}
    (ha : s.chain.activity = .poll i) (hok : pollReplyOk temp hours load echo = true) :
    ∃ t, exec (.pollReply temp fault hours load echo) s = .next t
      ∧ (t.tile i).temp = (s.arrived i temp fault hours load echo).temp
      ∧ Arrived (s.arrived i temp fault hours load echo).prot (t.tile i).prot := by
  have hexec : exec (.pollReply temp fault hours load echo) s
      = .next (event (fun s => pollFrom (i.val + 1) (pollReplied i temp fault hours load echo s)) s) := by
    show execPollReply temp fault hours load echo s = _
    simp only [execPollReply, ha, hok, if_true]
  have hround := RoundStep.event_after s (pollReplied_eq s i temp fault hours load echo) (.of_pollFrom _ (i.val + 1))
  obtain ⟨hi, _⟩ := roundStep_of_putTile s hround
  refine ⟨_, hexec, ?_, ?_⟩
  · obtain ⟨_, htemp, _⟩ := pollState_spec s.protSet.lostPolicy (s.arrived i temp fault hours load echo)
    rw [hi.temp, (settleTile_frame _ _ _ _).1, htemp]
  · have hprot := hi.prot
    rw [settleTile_prot] at hprot
    rw [hprot]
    rcases pollState_prot s.protSet.lostPolicy (s.arrived i temp fault hours load echo) with e | e <;> rw [e] <;>
      exact ⟨rfl, rfl, rfl, rfl, rfl, rfl, rfl⟩

/-- The tile of an arrival, by its selection: the reading is taken first, and the sources are looked at then (R65). -/
theorem arrived_cases (s : State) (i : Slot) (temp : Option Int) (fault : Bool) (hours load : Nat) (echo : RGB Nat) :
    ∃ u, ReadAt s u i (validOwn temp fault)
      ∧ (selectSource u i = none → (s.arrived i temp fault hours load echo).temp
            = applySelection none (takeReading temp fault (s.tile i).temp)
          ∧ (s.arrived i temp fault hours load echo).prot
            = ((s.tile i).prot.afterReading s.tempSet (validOwn temp fault)).afterSample s.protSet s.tempSet true none)
      ∧ ∀ z, selectSource u i = some z → (s.arrived i temp fault hours load echo).temp
            = (takeSample s.tempSet.w z.sample.temp (applySelection (some z) (takeReading temp fault (s.tile i).temp))).1
          ∧ (s.arrived i temp fault hours load echo).prot
            = ((s.tile i).prot.afterReading s.tempSet (validOwn temp fault)).afterSample s.protSet s.tempSet false
              (newTeff s.tempSet.w z.sample.temp (applySelection (some z) (takeReading temp fault (s.tile i).temp))) := by
  obtain ⟨y, hy, harrived⟩ := arrived_eq s i temp fault hours load echo
  refine ⟨s.putTile i y, ⟨rfl, rfl, rfl, fun j hj => State.tile_putTile_other _ _ _ _ hj, ?_, ?_⟩, fun h => ?_, fun z h => ?_⟩
  · rw [State.tile_putTile_same, hy]
    rfl
  · rw [State.tile_putTile_same, hy]
    exact validReading_takeReading temp fault (s.tile i).temp
  · rw [harrived, h, arrivalSample_none, State.tile_putTile_same, State.tile_putTile_same, hy]
    exact ⟨rfl, rfl⟩
  · rw [harrived, h, arrivalSample_some, State.tile_putTile_same, State.tile_putTile_same, hy]
    exact ⟨rfl, rfl⟩

theorem overheatJudged_arrived (s : State) (i : Slot) (temp : Option Int) (fault : Bool) (hours load : Nat) (echo : RGB Nat) :
    OverheatJudged s.tempSet (validOwn temp fault) (s.tile i).prot (s.arrived i temp fault hours load echo).prot := by
  obtain ⟨u, _, hnone, hsome⟩ := arrived_cases s i temp fault hours load echo
  have hjudged : ∀ noSource e, OverheatJudged s.tempSet (validOwn temp fault) (s.tile i).prot
      (((s.tile i).prot.afterReading s.tempSet (validOwn temp fault)).afterSample s.protSet s.tempSet noSource e) := by
    intro noSource e
    obtain ⟨hover, hblank⟩ := overheat_afterSample s.protSet s.tempSet noSource e
      ((s.tile i).prot.afterReading s.tempSet (validOwn temp fault))
    exact (overheatJudged_afterReading _ _ _).of_same hover hblank
  cases hsel : selectSource u i with
  | none =>
    rw [(hnone hsel).2]
    exact hjudged _ _
  | some z =>
    rw [(hsome z hsel).2]
    exact hjudged _ _

end Sys2Proof.Machine

open Sys2Proof Sys2Proof.Machine

/-- Settles O52: the table row by row, and then the arrival of a POLL reply, with a source selected and without. -/
theorem conditionTable : Obligations.ConditionTable := by
  refine ⟨fun c now x y a b h => ?_, fun i temp fault hours load echo s ha hok hreset hmap hline => ?_⟩
  · cases now with
    | true =>
      rw [evalClass_active, Prod.mk.injEq] at h
      obtain ⟨rfl, rfl⟩ := h
      exact ⟨fun hx _ hm => Cond.found_of_reported c hx hm,
        fun hx _ hm => ⟨Cond.found_of_off c hx hm, Act.found_of_unheld c (.inr hm)⟩,
        fun _ hm hk => Act.found_of_latched c hm hk, fun _ hm hk => Act.found_of_retry c hm hk,
        fun _ hk => Act.found_of_inForce c hk, fun hm => Act.found_of_unheld c (.inl hm),
        fun hx _ => ⟨Cond.found_of_active c hx, fun hm => Act.found_of_unheld c (.inr hm)⟩, nofun, nofun⟩
    | false =>
      cases hx : x.cond with
      | true =>
        rw [evalClass_falls c a hx, Prod.mk.injEq] at h
        obtain ⟨rfl, rfl⟩ := h
        exact ⟨nofun, nofun, nofun, nofun, nofun, fun _ => rfl, nofun, fun _ _ => ⟨rfl, rfl⟩, nofun⟩
      | false =>
        rw [evalClass_stays c a hx, Prod.mk.injEq] at h
        obtain ⟨rfl, rfl⟩ := h
        exact ⟨nofun, nofun, nofun, nofun, nofun, fun _ => rfl, nofun, nofun, fun _ _ => ⟨rfl, rfl⟩⟩
  · obtain ⟨t, hexec, htemp, harrived⟩ := exec_pollReply ha hok
    obtain ⟨u, hread, hnone, hsome⟩ := arrived_cases s i temp fault hours load echo
    have hselect := fun x role v n => selectSource_iff (x := x) (role := role) (v := v) (n := n) hreset hmap hline hread
    obtain ⟨hsensor, hsensorAct, hhot, hhotAct⟩ := afterReading_frame s.tempSet (validOwn temp fault) (s.tile i).prot
    refine ⟨t, hexec, (overheatJudged_arrived s i temp fault hours load echo).of_same harrived.overheat harrived.overheatBlank,
      harrived.factor, fun x role v n hsel => ?selected, fun hno => ?unselected⟩
    case unselected =>
      have hsel : selectSource u i = none := by
        cases hz : selectSource u i with
        | none => rfl
        | some z => exact absurd ((hselect _ _ _ _).mp hz) (hno _ _ _ _)
      obtain ⟨htemp', hprot'⟩ := hnone hsel
      obtain ⟨hsource, hrole, hlending, hteff, hlast, hkept, hemptied⟩ :=
        applySelection_spec none (takeReading temp fault (s.tile i).temp)
      rw [htemp, htemp', harrived.sensor, harrived.sensorAct, harrived.hot, harrived.hotAct, hprot', ← hsensor, ← hsensorAct]
      exact ⟨hsource, hrole, hlending, hlast, hteff, hkept, hemptied, sensor_afterSample _ _ _ _ _, hhot, hhotAct⟩
    case selected =>
      obtain ⟨htemp', hprot'⟩ := hsome _ ((hselect x role v n).mpr hsel)
      obtain ⟨hsource, hrole, hlending, hteff, _, hkept, hemptied⟩ :=
        applySelection_spec (some ⟨x, role, v, n⟩) (takeReading temp fault (s.tile i).temp)
      rw [← htemp] at htemp'
      dsimp only at htemp' hprot'
      generalize applySelection (some ⟨x, role, v, n⟩) (takeReading temp fault (s.tile i).temp) = r at *
      obtain ⟨hsource', hrole', hlending', hlast'⟩ := takeSample_frame s.tempSet.w v r
      have hteff : r.teff = (s.tile i).temp.teff := hteff
      have hjudged : ∀ e, newTeff s.tempSet.w v r = some e →
          HotJudged s.protSet.hot s.tempSet e (s.tile i).prot (t.tile i).prot := by
        intro e he
        rw [he] at hprot'
        exact (hotJudged_afterSample s.protSet s.tempSet false _ e).of_same hhot.symm hhotAct.symm
          (harrived.hot.trans (by rw [hprot'])) (harrived.hotAct.trans (by rw [hprot']))
      rw [harrived.sensor, harrived.sensorAct, harrived.hot, harrived.hotAct, ← hteff, htemp']
      refine ⟨r.sum, r.count, hsource'.trans hsource, hrole'.trans hrole, hlending'.trans hlending, hlast', ?_, hkept, hemptied,
        fun hseed => ?_, fun hheld hfull => ?_, fun hheld hpart => ?_⟩
      · rw [hprot', ← hsensor, ← hsensorAct]
        exact sensor_afterSample _ _ _ _ _
      · rw [takeSample_seed _ _ hseed]
        exact ⟨rfl, rfl, rfl, hjudged _ (newTeff_seed _ _ hseed)⟩
      · rw [takeSample_full _ _ hheld hfull]
        exact ⟨blockMean s.tempSet.w r.sum v, fun h => if_pos h, fun h => if_neg h, rfl, rfl, rfl,
          hjudged _ (newTeff_full _ _ hheld hfull)⟩
      · rw [hprot', newTeff_within _ _ hheld hpart, takeSample_within _ _ hheld hpart]
        exact ⟨rfl, rfl, rfl, hhot, hhotAct⟩

end

section
/-! PROOFS. The settling of P at a tile whose OVERHEAT stands (R99, R134), and when COND is due (R145). -/

namespace Sys2Proof.Machine

/-- The gain that a slot's coefficients are formed from: the applied gains of an ACTIVE slot, and 4096 of an UNPROFILED one (R95). -/
def Tile.FormsFrom (t : Tile) (g : RGB Nat) : Prop :=
  (t.chain.state = .active ∧ t.slew.ga = some g) ∨ (t.chain.state = .unprofiled ∧ g = ⟨4096, 4096, 4096⟩)

theorem Tile.FormsFrom.gain {t : Tile} {g : RGB Nat} (h : t.FormsFrom g) : t.gain = some g := by
  unfold Tile.gain
  rcases h with ⟨hstate, hga⟩ | ⟨hstate, rfl⟩
  · rw [hstate]
    exact hga
  · rw [hstate]
    rfl

/-- What the settling of P makes of tile `t` where OVERHEAT is as it was before the event: P is what the actions make it, the slot is
re-formed where that moves P, and the rest stands (R99, R134). -/
structure Settled (m sb : Nat) (t y : Tile) : Prop where
  prot : y.prot = { t.prot with p := protFactor t.prot }
  reformed : ∀ g, t.FormsFrom g → y.prot.p ≠ t.prot.p → y.chain.pending = some (formed m (usedFactor y) sb g)
  kept : y.prot.p = t.prot.p → y.chain = t.chain ∧ y.eng = t.eng
  chain : SameButPending t.chain y.chain
  slew : y.slew = t.slew
  temp : y.temp = t.temp
  held : y.held = t.held

section Settle

variable {m sb : Nat} {was : Bool} {t : Tile} (h : t.prot.overheat.cond = was)
include h

theorem settleTile_of_same (hp : protFactor t.prot = t.prot.p) : settleTile m sb was t = t := by
  have hno : ¬(protFactor t.prot != t.prot.p || t.prot.overheat.cond != was) = true := by simp [h, hp]
  refine (if_neg hno).trans ?_
  rw [hp]
  rfl

theorem settleTile_of_changed (hp : protFactor t.prot ≠ t.prot.p) :
    settleTile m sb was t = formTile .reform m sb (t.setProt { t.prot with p := protFactor t.prot }) :=
  if_pos (by simp [h, hp])

theorem settled_settleTile : Settled m sb t (settleTile m sb was t) := by
  obtain ⟨htemp, hheld, hslew, _⟩ := settleTile_frame m sb was t
  have hprot := settleTile_prot m sb was t
  refine ⟨hprot, fun g hg hp => ?_, fun hp => ?_, settleTile_chain .., hslew, htemp, hheld⟩
  · rw [hprot] at hp
    have hgain : (t.setProt { t.prot with p := protFactor t.prot }).gain = some g := hg.gain
    rw [settleTile_of_changed h hp, formTile_of_gain hgain]
    rfl
  · rw [hprot] at hp
    rw [settleTile_of_same h hp]
    exact ⟨rfl, rfl⟩

end Settle

theorem Settled.factor {m sb : Nat} {t y : Tile} (h : Settled m sb t y) : y.prot.p = protFactor y.prot := by
  rw [h.prot]
  rfl

/-! ## When COND is due -/

theorem condDue_of_slot {before after : State} (i : Slot)
    (h : (before.tile i).prot.sameFlags (after.tile i).prot = false) : condDue before after = true := by
  have hany : (slots.any fun i => !(before.tile i).prot.sameFlags (after.tile i).prot) = true :=
    List.any_eq_true.mpr ⟨i, mem_slots i, by rw [h]; rfl⟩
  rw [condDue, hany]
  rfl

theorem condDue_of_budgetLatched {before after : State} (h : before.budget.latched ≠ after.budget.latched) :
    condDue before after = true := by
  rw [condDue, bne_iff_ne.mpr h, Bool.or_true]

/-- An event that makes COND due, and moves no pending set in its effect, adds it at every port. -/
theorem pending_cond_notify {before after : State} (h : condDue before after = true) (q : Port) :
    ((notify before after).port q).pending.cond = true := by
  rw [port_notify, h]
  exact Bool.or_true _

end Sys2Proof.Machine
end

section
/-! PROOFS. The expiry of a retry timer (R132). -/

namespace Sys2Proof.Machine

variable (r : ProtRec) (cls : TimedClass)

/-- The released class has no action and no timer left; the other class, the conditions and P stand. -/
theorem releaseAct_spec : (r.releaseAct cls).act cls = Act.released
    ∧ (cls = .hot → (r.releaseAct cls).sensorAct = r.sensorAct) ∧ (cls = .sensor → (r.releaseAct cls).hotAct = r.hotAct)
    ∧ (r.releaseAct cls).conds = r.conds ∧ (r.releaseAct cls).overheatBlank = r.overheatBlank
    ∧ (r.releaseAct cls).overheat = r.overheat ∧ (r.releaseAct cls).p = r.p := by
  cases cls
  case hot => exact ⟨rfl, fun _ => rfl, nofun, rfl, rfl, rfl, rfl⟩
  case sensor => exact ⟨rfl, nofun, fun _ => rfl, rfl, rfl, rfl, rfl⟩

/-- Two records with different actions in force in a class carry different flags and actions. -/
theorem sameFlags_of_kind_ne {r q : ProtRec} {cls : TimedClass} (h : (r.act cls).kind ≠ (q.act cls).kind) :
    r.sameFlags q = false := by
  have hkind : ((r.act cls).kind == (q.act cls).kind) = false := beq_eq_false_iff_ne.mpr h
  cases cls with
  | hot =>
    have hkind : (r.hotAct.kind == q.hotAct.kind) = false := hkind
    simp only [ProtRec.sameFlags, hkind, Bool.and_false, Bool.false_and]
  | sensor =>
    have hkind : (r.sensorAct.kind == q.sensorAct.kind) = false := hkind
    simp only [ProtRec.sameFlags, hkind, Bool.and_false, Bool.false_and]

theorem exec_retryTimerExpiry {i : Slot} {cls : TimedClass} {s : State} (h : ((s.tile i).prot.act cls).timer ≠ none) :
    exec (.retryTimerExpiry i cls) s = .next (notify s (expireRetry i cls s)) :=
  congrArg Host.Outcome.next (if_pos (Option.isSome_iff_ne_none.mpr h))

theorem tile_expireRetry (i : Slot) (cls : TimedClass) (s : State) : (expireRetry i cls s).tile i =
    settleTile s.showRec.m s.budget.sb (s.tile i).prot.overheat.cond
      ((s.tile i).setProt ((s.tile i).prot.releaseAct cls)) := by
  simp only [expireRetry, settleSlot, State.tile_putTile_same]
  rfl

theorem tile_expireRetry_other {i j : Slot} (cls : TimedClass) (s : State) (hj : j ≠ i) :
    (expireRetry i cls s).tile j = s.tile j := by
  rw [expireRetry, settleSlot, State.tile_putTile_other _ _ _ _ hj, State.tile_putTile_other _ _ _ _ hj]

theorem expireRetry_frame (i : Slot) (cls : TimedClass) (s : State) :
    expireRetry i cls s = { s with tiles := (expireRetry i cls s).tiles } := rfl

end Sys2Proof.Machine

open Sys2Proof Sys2Proof.Machine

/-- Settles O30: the release of the action, then the settling of P at the slot, and COND at every port for the action that went. -/
theorem retryExpiryReleasesTheAction : Obligations.RetryExpiryReleasesTheAction := by
  intro i cls s htimer
  obtain ⟨hact, hsensor, hhot, hconds, hblank, hover, hp⟩ := releaseAct_spec (s.tile i).prot cls
  have hset := settled_settleTile (m := s.showRec.m) (sb := s.budget.sb) (was := (s.tile i).prot.overheat.cond)
    (t := (s.tile i).setProt ((s.tile i).prot.releaseAct cls)) (congrArg Cond.cond hover)
  rw [← tile_expireRetry] at hset
  have hother := fun j hj => tile_expireRetry_other (i := i) (j := j) cls s hj
  have hprot : ∀ cls', ((expireRetry i cls s).tile i).prot.act cls' = ((s.tile i).prot.releaseAct cls).act cls' := by
    intro cls'
    rw [hset.prot]
    cases cls' <;> rfl
  refine ⟨_, exec_retryTimerExpiry htimer, (hprot cls).trans hact, fun h => (hprot .sensor).trans (hsensor h),
    fun h => (hprot .hot).trans (hhot h), ?conds, ?blank, hset.factor, fun g hg hne => hset.reformed g hg fun he => hne (he.trans hp),
    fun he => hset.kept (he.trans hp.symm), hset.chain, hset.slew, hset.temp, hset.held, hother, fun hkind q => ?notices,
    by rw [notify_frame, expireRetry_frame]⟩
  case conds =>
    rw [tile_notify, hset.prot]
    exact hconds
  case blank =>
    rw [tile_notify, hset.prot]
    exact hblank
  case notices =>
    have htile : tileDue s (expireRetry i cls s) = false := tileDue_false fun j => by
      by_cases hj : j = i
      · rw [hj]
        exact hset.chain.tileNotice
      · rw [hother j hj]
        exact tileNotice_self _
    have hcond : condDue s (expireRetry i cls s) = true := condDue_of_slot i (sameFlags_of_kind_ne (cls := cls) (by
      rw [hprot cls, hact]
      exact hkind))
    rw [port_notify, htile, hcond, expireRetry_frame]
    rfl

end

section
/-! PROOFS. SET-PROTECT: a class brought into line with its settings (R137, R138), and the request whole (R136). -/

namespace Sys2Proof.Machine

/-! ## Settings kept or given -/

theorem setTo_eq {α β : Type} (x : Option α) (clamp : α → β) (held : β) : setTo x clamp held = (x.map clamp).getD held := by
  cases x <;> rfl

theorem setTo_id {α : Type} (x : Option α) (held : α) : setTo x id held = x.getD held := by
  rw [setTo_eq, Option.map_id_fun, id]

theorem setTo_clampNat_eq (x : Option Nat) (held : Nat) {lo hi : Nat} (h : lo ≤ hi) :
    setTo x (clampNat lo hi) held = (x.map fun v => max lo (min hi v)).getD held := by
  rw [setTo_eq, show clampNat lo hi = fun v => max lo (min hi v) from funext fun v => clampNat_eq v h]

/-- The settings of a class, each given and clamped or else kept (R136). -/
theorem classAfter_eq (x : ClassBlock) (r : ClassSettings) : classAfter x r =
    ⟨x.mode.getD r.mode, x.action.getD r.action, (x.dim.map (min 4096)).getD r.dim,
      (x.retry.map fun v => max 1 (min 255 v)).getD r.retry⟩ := by
  rw [classAfter, setTo_id, setTo_id, setTo_eq, setTo_clampNat_eq _ _ (by decide)]

/-! ## One class -/

theorem ActionKind.inForce_ne_none (k : ActionKind) : k.inForce ≠ .none := by
  cases k <;> nofun

section Class

variable {c old new : ClassSettings} {x : Cond} {a : Act}

theorem Act.start_of_latched (h : c.mode = .latched) : Act.start c = ⟨c.action.inForce, c.dimInForce, none⟩ := by
  rw [Act.start, h]
  rfl

theorem Act.start_of_retry (h : c.mode = .retry) : Act.start c = ⟨c.action.inForce, c.dimInForce, some (c.retry * 1000)⟩ := by
  rw [Act.start, h]
  rfl

theorem alignAction_of_none (h : a.kind = .none) : alignAction c a = a := if_pos h

theorem alignAction_of_inForce (h : a.kind ≠ .none) : alignAction c a = ⟨c.action.inForce, c.dimInForce, a.timer⟩ := if_neg h

/-- An action that has just started already has the class's kind and dim level. -/
theorem alignAction_start : alignAction c (Act.start c) = Act.start c :=
  alignAction_of_inForce c.action.inForce_ne_none

/-- Under an unchanged mode only the kind and the dim level of an action in force move (R138). -/
theorem alignClass_kept (h : old.mode = new.mode) :
    ClassKept new x a (alignClass old new x a).1 (alignClass old new x a).2 := by
  have hclass : alignClass old new x a = (x, alignAction new a) := by
    rw [alignClass, if_pos h]
  rw [hclass]
  exact ⟨rfl, alignAction_of_none, alignAction_of_inForce⟩

/-- A changed mode: the row of R137 for the new mode, with the kind and dim level of R138. -/
theorem alignClass_inLine (h : old.mode ≠ new.mode) :
    ClassInLine new x a (alignClass old new x a).1 (alignClass old new x a).2 := by
  have hclass : alignClass old new x a = ((alignMode new x a).1, alignAction new (alignMode new x a).2) := by
    rw [alignClass, if_neg h]
  rw [hclass]
  cases hm : new.mode with
  | off =>
    have hmode : alignMode new x a = ({ x with active := false }, Act.released) := by rw [alignMode, hm]
    rw [hmode, ClassInLine, hm]
    exact ⟨fun _ => ⟨rfl, alignAction_of_none (c := new) (a := Act.released) rfl⟩, fun h => absurd rfl h, nofun, nofun, nofun,
      nofun, nofun⟩
  | report =>
    have hmode : alignMode new x a = (⟨x.cond, x.cond, x.latched || x.cond⟩, Act.released) := by rw [alignMode, hm]
    rw [hmode, ClassInLine, hm]
    exact ⟨nofun, fun _ => rfl, fun _ => alignAction_of_none (c := new) (a := Act.released) rfl, nofun, nofun, nofun, nofun⟩
  | latched =>
    have hmode : alignMode new x a = (⟨x.cond, x.cond, x.latched || x.cond⟩,
        if a.kind = .none then (if x.cond then Act.start new else a) else { a with timer := none }) := by rw [alignMode, hm]
    rw [hmode, ClassInLine, hm]
    refine ⟨nofun, fun _ => rfl, nofun, fun _ hdue => ?_, nofun, nofun, fun _ hnone hclear => ?_⟩
    · by_cases hnone : a.kind = .none
      · have hcond := hdue.resolve_left (absurd hnone)
        rw [if_pos hnone, if_pos hcond, alignAction_start]
        exact Act.start_of_latched hm
      · rw [if_neg hnone]
        exact alignAction_of_inForce (a := { a with timer := none }) hnone
    · rw [if_pos hnone, hclear]
      exact alignAction_of_none hnone
  | retry =>
    have hmode : alignMode new x a = (⟨x.cond, x.cond, x.latched || x.cond⟩,
        if a.kind = .none then (if x.cond then Act.start new else a)
        else { a with timer := some (a.timer.getD new.retryMs) }) := by rw [alignMode, hm]
    rw [hmode, ClassInLine, hm]
    refine ⟨nofun, fun _ => rfl, nofun, nofun, fun _ hkind => ?_, fun _ hnone hcond => ?_, fun _ hnone hclear => ?_⟩
    · rw [if_neg hkind]
      exact alignAction_of_inForce (a := { a with timer := some (a.timer.getD new.retryMs) }) hkind
    · rw [if_pos hnone, if_pos hcond, alignAction_start]
      exact Act.start_of_retry hm
    · rw [if_pos hnone, hclear]
      exact alignAction_of_none hnone

end Class

/-! ## One slot -/

section Short

variable (x : Cond)

theorem alignShort_same {old new : Bool} (h : old = new) : alignShort old new x = x := if_pos h

theorem alignShort_off {old new : Bool} (hon : old = true) (hoff : new = false) :
    alignShort old new x = { x with active := false } := by
  rw [hon, hoff]
  rfl

theorem alignShort_on {old new : Bool} (hoff : old = false) (hon : new = true) (h : x.cond = true) :
    alignShort old new x = ⟨true, true, true⟩ := by
  rw [hoff, hon, alignShort, if_neg nofun, if_pos rfl, h, Bool.or_true]

end Short

/-! ## The request -/

theorem port_finish (s : State) (p : Port) (n : ReqName) (d : ResultData) :
    ((finish p n d s).port p).result = some ⟨n, .done, none, d⟩ ∧ ((finish p n d s).port p).busy = none := by
  obtain ⟨⟨hport, _⟩, _⟩ := complete_spec s p n .done none d
  rw [finish, hport]
  exact ⟨rfl, rfl⟩

section Request

variable (p : Port) (x : ProtBlock) (s : State)

/-- The tile of a slot before P is settled. -/
def State.alignedTile (i : Slot) : Tile :=
  (s.tile i).setProt (alignProt s.protSet (protectAfter x s.protSet) (s.tile i).prot)

theorem tile_doSetProtect (i : Slot) : (doSetProtect p x s).tile i =
    settleTile s.showRec.m s.budget.sb (s.tile i).prot.overheat.cond (s.alignedTile x i) := by
  rw [doSetProtect, finish, tile_complete, settleAll, State.tile_setTiles, Table.get_mapIdx, State.setTiles_tiles, Table.get_map]
  rfl

theorem settled_doSetProtect (i : Slot) :
    Settled s.showRec.m s.budget.sb (s.alignedTile x i) ((doSetProtect p x s).tile i) := by
  rw [tile_doSetProtect]
  exact settled_settleTile rfl

theorem chain_doSetProtect : (doSetProtect p x s).chain = { s.chain with
    missLimit := (x.missLimit.map fun v => max 1 (min 15 v)).getD s.chain.missLimit
    roundInterval := (x.roundInterval.map fun v => max 10 (min 1000 v)).getD s.chain.roundInterval } := by
  rw [← setTo_clampNat_eq _ _ (by decide), ← setTo_clampNat_eq _ _ (by decide)]
  rfl

theorem port_doSetProtect : ((doSetProtect p x s).port p).result = some ⟨.setProtect, .done, none,
      .protect (doSetProtect p x s).protSet (doSetProtect p x s).chain.missLimit (doSetProtect p x s).chain.roundInterval⟩
    ∧ ((doSetProtect p x s).port p).busy = none := port_finish _ p .setProtect _

end Request

end Sys2Proof.Machine

open Sys2Proof Sys2Proof.Machine

/-- Settles O26: the settings clause by clause, then each slot by its classes' modes and by the settling of P. -/
theorem setProtectBringsSlotsIntoLine : Obligations.SetProtectBringsSlotsIntoLine := by
  intro p block x s hacc hx
  have hexec : exec (.setProtect p block) s = .next (notify s (doSetProtect p x (s.setAuth (trafficAuth p s)))) :=
    congrArg Host.Outcome.next (posted_accepted s hacc hx)
  obtain ⟨hresult, hbusy⟩ := port_doSetProtect p x (s.setAuth (trafficAuth p s))
  refine ⟨_, hexec, classAfter_eq _ _, classAfter_eq _ _, setTo_id _ _, setTo_id _ _,
    chain_doSetProtect p x (s.setAuth (trafficAuth p s)), fun i => ?_, (result_notify _ s p).trans hresult,
    (busy_notify _ s p).trans hbusy, rfl⟩
  have hset : (notify s (doSetProtect p x (s.setAuth (trafficAuth p s)))).protSet = protectAfter x s.protSet := rfl
  have hslot : Settled s.showRec.m s.budget.sb (s.alignedTile x i) _ := settled_doSetProtect p x (s.setAuth (trafficAuth p s)) i
  rw [hset, tile_notify]
  generalize (doSetProtect p x (s.setAuth (trafficAuth p s))).tile i = y at hslot
  have hclasses : y.prot = { alignProt s.protSet (protectAfter x s.protSet) (s.tile i).prot with p := y.prot.p } := by
    rw [hslot.prot]
    rfl
  refine ⟨fun h => ?_, fun h => ?_, fun h => ?_, fun h => ?_, fun h => ?_, fun hon hoff => ?_, fun hoff hon hc => ?_, ?_, ?_, ?_,
    hslot.factor, ?_, hslot.reformed, hslot.kept, hslot.chain, hslot.temp, hslot.slew, hslot.held⟩
  all_goals rw [hclasses]
  · exact alignClass_inLine h
  · exact alignClass_inLine h
  · exact alignClass_kept h
  · exact alignClass_kept h
  · exact alignShort_same _ h
  · exact alignShort_off _ hon hoff
  · exact alignShort_on _ hoff hon hc
  · rfl
  · rfl
  · rfl
  · rfl

end

section
/-! PROOFS. CLEAR-FAULTS: what it makes of a covered slot, the five counts of its result data, and the request whole (R140 to R142,
R157). -/

namespace Sys2Proof.Machine

/-! ## A covered slot -/

section Start

variable (t : Tile)

theorem clearReturns_iff : clearReturns t = true ↔ t.chain.state = .lost ∧ t.chain.answering = true := by
  rw [clearReturns, Bool.and_eq_true, beq_iff_eq]

/-- Step 1 of R141 on a slot that returns to its former state. -/
theorem clearStart_of_returns {f : FormerState} (h : clearReturns t = true) (hf : t.chain.former = some f) : clearStart t = { t with
    chain := { t.chain with state := f.state, former := none, answering := false }
    prot := { t.prot with lost := t.prot.lost.clear, probe := t.prot.probe.clear } } := by
  rw [clearStart, if_pos h, returnFromLost_spec t f hf]
  rfl

theorem clearStart_of_stays (h : ¬clearReturns t = true) :
    clearStart t = { t with prot := { t.prot with probe := t.prot.probe.clear } } := by
  rw [clearStart, if_neg h]
  rfl

/-- Whether the slot returns or not, the start of a CLEAR-FAULTS moves the slot record and, of the protection record, LOST and PROBE
alone, and it leaves every latched flag to the steps that follow. -/
theorem clearStart_frame : ∃ chain lost, lost.latched = t.prot.lost.latched
    ∧ clearStart t = { t with chain := chain, prot := { t.prot with lost := lost, probe := t.prot.probe.clear } } := by
  by_cases h : clearReturns t = true
  · cases hf : t.chain.former with
    | none =>
      have hstay : returnFromLost t = t := by rw [returnFromLost, hf]
      exact ⟨t.chain, t.prot.lost, rfl, by rw [clearStart, if_pos h, hstay]; rfl⟩
    | some f => exact ⟨_, t.prot.lost.clear, rfl, clearStart_of_returns t h hf⟩
  · exact ⟨t.chain, t.prot.lost, rfl, clearStart_of_stays t h⟩

end Start

section Release

variable (c : ClassSettings) (x : Cond) (a : Act)

/-- Step 4 of R141 for one class. -/
def clearedAct : Act := if releases c x a then Act.released else a

theorem clearedAct_kind (hm : c.mode = .latched) (hx : x.cond = false) : (clearedAct c x a).kind = .none := by
  unfold clearedAct
  split
  · rfl
  · rename_i h
    simpa [releases, hm, hx] using h

theorem clearedAct_of_held (h : c.mode ≠ .latched ∨ x.cond = true) : clearedAct c x a = a := by
  refine if_neg fun hr => ?_
  simp only [releases, Bool.and_eq_true, beq_iff_eq, Bool.not_eq_true'] at hr
  obtain ⟨⟨hm, hx⟩, _⟩ := hr
  rcases h with h | h
  · exact h hm
  · exact absurd h (by simp [hx])

/-- An action in force is gone after step 4 exactly where step 4 releases it. -/
theorem clearedAct_gone : (a.kind ≠ .none ∧ (clearedAct c x a).kind = .none) ↔ releases c x a = true := by
  unfold clearedAct
  split
  · rename_i h
    simp only [h, iff_true]
    simp only [releases, Bool.and_eq_true, bne_iff_ne] at h
    exact ⟨h.2, rfl⟩
  · rename_i h
    exact ⟨fun ⟨hne, hnone⟩ => absurd hnone hne, fun hr => absurd hr h⟩

end Release

/-- A condition that has just become INACTIVE keeps no flag in step 3. -/
theorem Cond.clear_unlatch (x : Cond) : x.clear.unlatch = ⟨false, false, false⟩ := rfl

/-- Steps 3 and 4 of R141 on a record: `clearRest` class by class. -/
theorem clearRest_eq (c : ProtSettings) (r : ProtRec) : clearRest c r = { r with
    hot := r.hot.unlatch, overheat := r.overheat.unlatch, sensor := r.sensor.unlatch, lost := r.lost.unlatch
    short := r.short.unlatch, probe := r.probe.unlatch
    probeReason := if r.probe.unlatches then none else r.probeReason
    probeChan := if r.probe.unlatches then none else r.probeChan
    hotAct := clearedAct c.hot r.hot r.hotAct, sensorAct := clearedAct c.sensor r.sensor r.sensorAct } := rfl

theorem overheat_clearTile (c : ProtSettings) (x : Tile) : (clearTile c x).prot.overheat.cond = x.prot.overheat.cond := by
  obtain ⟨chain, lost, _, hstart⟩ := clearStart_frame x
  show (clearStart x).prot.overheat.unlatch.cond = _
  rw [hstart, Cond.unlatch_eq]

/-- A covered slot with P settled is acknowledged as R141 lays down. -/
theorem acknowledged_of_settled {c : ProtSettings} {m sb : Nat} {x y : Tile} (h : Settled m sb (clearTile c x) y) :
    Acknowledged c x y := by
  obtain ⟨chain, lost, _, hstart⟩ := clearStart_frame x
  have hprot : y.prot = { clearRest c (clearStart x).prot with p := y.prot.p } := by
    rw [h.prot]
    rfl
  have hlost : y.prot.lost = (clearStart x).prot.lost.unlatch := by rw [hprot, clearRest_eq]
  have hchain : SameButPending (clearStart x).chain y.chain := h.chain
  refine ⟨fun f hl ha hf => ?_, fun hno => ?_, ?_, fun hlatched => ?_, ?_, ?_, ?_, ?_, fun hm hx => ?_, fun hheld => ?_,
    fun hm hx => ?_, fun hheld => ?_, ?_, h.factor, h.slew.trans (congrArg Tile.slew hstart :),
    h.temp.trans (congrArg Tile.temp hstart :), h.held.trans (congrArg Tile.held hstart :)⟩
  case refine_1 =>
    rw [clearStart_of_returns x ((clearReturns_iff x).mpr ⟨hl, ha⟩) hf] at hchain hlost
    exact ⟨hchain, hlost⟩
  case refine_2 =>
    have hstay : ¬clearReturns x = true := by
      rw [clearReturns_iff, not_and_or, Bool.not_eq_true]
      exact hno
    rw [clearStart_of_stays x hstay] at hchain hlost
    exact ⟨hchain, hlost.trans (Cond.unlatch_eq _)⟩
  all_goals rw [hprot, clearRest_eq, hstart]
  · exact Cond.clear_unlatch _
  · have hprobe : x.prot.probe.clear.unlatches = true := by
      rw [Cond.unlatches, Cond.clear, hlatched]
      rfl
    exact ⟨if_pos hprobe, if_pos hprobe⟩
  · exact Cond.unlatch_eq _
  · exact Cond.unlatch_eq _
  · exact Cond.unlatch_eq _
  · exact Cond.unlatch_eq _
  · exact clearedAct_kind _ _ _ hm hx
  · exact clearedAct_of_held _ _ _ hheld
  · exact clearedAct_kind _ _ _ hm hx
  · exact clearedAct_of_held _ _ _ hheld

/-! ## The counts -/

theorem unlatch_active (x : Cond) : x.unlatch.active = x.active := by rw [Cond.unlatch_eq]

/-- Latched flags lost between two lists of conditions that carry the same latched flags, the second of them cleared. -/
theorem latchedLost_map_unlatch {xs ys : List Cond} (h : List.Forall₂ (fun x y => y.latched = x.latched) xs ys) :
    ((xs.zip (ys.map Cond.unlatch)).filter fun c => c.1.latched && !c.2.latched).length
      = (ys.filter Cond.unlatches).length := by
  induction h with
  | nil => rfl
  | @cons x y xs ys hxy _ ih =>
    have hhead : (x.latched && !y.unlatch.latched) = y.unlatches := by
      rw [Cond.unlatch_eq, Cond.unlatches, ← hxy]
      cases y.latched <;> rfl
    simp only [List.map_cons, List.zip_cons_cons, List.filter_cons, hhead]
    split
    · simpa using ih
    · exact ih

section Counts

variable {c : ProtSettings} {m sb : Nat} {x y : Tile} (h : Settled m sb (clearTile c x) y)

theorem returnedBy_eq (x y : Tile) : returnedBy x y = if clearReturns x then 1 else 0 := by
  simp only [returnedBy, clearReturns_iff]

include h

theorem conds_of_settled : y.prot.conds = (clearStart x).prot.conds.map Cond.unlatch := by
  rw [h.prot]
  rfl

theorem latchedLost_eq : latchedLost x y = unlatchCount (clearStart x).prot := by
  obtain ⟨chain, lost, hlost, hstart⟩ := clearStart_frame x
  rw [latchedLost, unlatchCount, conds_of_settled h]
  refine latchedLost_map_unlatch ?_
  rw [hstart]
  exact .cons rfl (.cons rfl (.cons rfl (.cons hlost (.cons rfl (.cons rfl .nil)))))

theorem actionsReleased_eq : actionsReleased x y = releaseCount c (clearStart x).prot := by
  obtain ⟨chain, lost, _, hstart⟩ := clearStart_frame x
  have hhot : y.prot.hotAct = clearedAct c.hot (clearStart x).prot.hot (clearStart x).prot.hotAct := by
    rw [h.prot]
    rfl
  have hsensor : y.prot.sensorAct = clearedAct c.sensor (clearStart x).prot.sensor (clearStart x).prot.sensorAct := by
    rw [h.prot]
    rfl
  rw [actionsReleased, releaseCount, hhot, hsensor, hstart]
  simp only [clearedAct_gone]

theorem stillActive_eq : stillActive x y = ((clearStart x).prot.conds.filter (·.active)).length := by
  rw [stillActive, conds_of_settled h, List.filter_map, List.length_map]
  congr 2
  exact funext unlatch_active

end Counts

/-! ## The request -/

section Request

variable (s : State) (target : Option Slot)

/-- The state after a CLEAR-FAULTS that is not refused, before it completes. -/
def State.cleared : State :=
  settleAll s ((s.setTiles (s.tiles.mapIdx fun i t => if covers s target i then clearTile s.protSet t else t)).setBudget
    (clearBudget target s.budget))

theorem doClearFaults_of_named (p : Port) {i : Slot} (h : (s.tile i).chain.state ≠ .vacant) :
    doClearFaults p (some i) s = finish p .clearFaults (clearResult s (some i)) (s.cleared (some i)) :=
  if_neg (by simpa using (present_iff _).mpr h)

theorem doClearFaults_of_all (p : Port) :
    doClearFaults p none s = finish p .clearFaults (clearResult s none) (s.cleared none) := rfl

theorem doClearFaults_of_vacant (p : Port) {i : Slot} (h : (s.tile i).chain.state = .vacant) :
    doClearFaults p (some i) s = refuse p .clearFaults .notFound s :=
  if_pos (by simp [Tile.present, h])

theorem tile_cleared (i : Slot) : (s.cleared target).tile i = settleTile s.showRec.m (clearBudget target s.budget).sb
    (s.tile i).prot.overheat.cond (if covers s target i then clearTile s.protSet (s.tile i) else s.tile i) := by
  rw [State.cleared, settleAll, State.tile_setTiles, Table.get_mapIdx, State.setBudget_tiles, State.setTiles_tiles, Table.get_mapIdx]
  rfl

/-- A covered slot is cleared, and P settled at it. -/
theorem settled_cleared {i : Slot} (h : covers s target i = true) :
    Settled s.showRec.m (clearBudget target s.budget).sb (clearTile s.protSet (s.tile i)) ((s.cleared target).tile i) := by
  rw [tile_cleared, if_pos h]
  exact settled_settleTile (overheat_clearTile _ _)

/-- A slot that is not covered stands, its P being what its actions make it. -/
theorem tile_cleared_other {i : Slot} (hp : FactorInv s) (h : ¬covers s target i = true) :
    (s.cleared target).tile i = s.tile i := by
  rw [tile_cleared, if_neg h]
  exact settleTile_of_same rfl (hp i).symm

theorem covers_named_iff (i j : Slot) : covers s (some i) j = true ↔ j = i := beq_iff_eq

theorem covers_all_iff (i : Slot) : covers s none i = true ↔ (s.tile i).chain.state ≠ .vacant := present_iff _

theorem clearBudget_all (b : Budget) : clearBudget none b = { b with latched := b.latched && b.active } := by
  by_cases h : b.active = true
  · have hkept : (b.latched && b.active) = b.latched := by rw [h, Bool.and_true]
    rw [hkept]
    exact if_pos h
  · rw [clearBudget, if_neg h, eq_false_of_ne_true h, Bool.and_false]

/-! ## The result data -/

theorem covered_named (i : Slot) : slots.filter (covers s (some i)) = [i] := by
  have hcount : slots.count i = 1 := List.count_eq_one_of_mem (List.nodup_finRange 64) (mem_slots i)
  have hfilter : slots.filter (covers s (some i)) = List.replicate (slots.count i) i := List.filter_beq i
  rw [hfilter, hcount]
  rfl

theorem sumCovered_named (i : Slot) (f : Tile → Nat) : sumCovered s (some i) f = f (s.tile i) := by
  rw [sumCovered, covered_named]
  rfl

/-- The result data of a named slot are the counts over its tile, before and after. -/
theorem clearResult_named {i : Slot} {y : Tile} {sb : Nat}
    (h : Settled s.showRec.m sb (clearTile s.protSet (s.tile i)) y) : clearResult s (some i) = .cleared 1 (returnedBy (s.tile i) y)
      (latchedLost (s.tile i) y) (actionsReleased (s.tile i) y) (stillActive (s.tile i) y) := by
  rw [clearResult, covered_named, sumCovered_named, sumCovered_named, sumCovered_named, sumCovered_named, returnedBy_eq,
    latchedLost_eq h, actionsReleased_eq h, stillActive_eq h]
  rfl

/-- A count that each slot that is not VACANT gives alike from its tile before, and from its tiles before and after. -/
theorem sumCovered_all {t : State} {f : Tile → Nat} {g : Tile → Tile → Nat}
    (h : ∀ i, covers s none i = true → f (s.tile i) = g (s.tile i) (t.tile i)) : sumCovered s none f = overPresent s t g := by
  rw [sumCovered, overPresent]
  congr 1
  exact List.map_congr_left fun i hi => h i (List.of_mem_filter hi)

theorem covered_all (t : State) : (slots.filter (covers s none)).length = overPresent s t fun _ _ => 1 := by
  rw [overPresent, List.map_const', List.sum_replicate, smul_eq_mul, mul_one]
  rfl

/-- The result data of ALL are the counts over every slot that is not VACANT, with the flags of BUDGET (R157). -/
theorem clearResult_all {t : State} {sb : Nat}
    (h : ∀ i, covers s none i = true → Settled s.showRec.m sb (clearTile s.protSet (s.tile i)) (t.tile i)) :
    clearResult s none = .cleared (overPresent s t fun _ _ => 1) (overPresent s t returnedBy)
      (overPresent s t latchedLost + if s.budget.latched = true ∧ s.budget.active = false then 1 else 0)
      (overPresent s t actionsReleased) (overPresent s t stillActive + if s.budget.active = true then 1 else 0) := by
  rw [clearResult, covered_all s t, sumCovered_all s fun i _ => (returnedBy_eq (s.tile i) (t.tile i)).symm,
    sumCovered_all s fun i hi => (latchedLost_eq (h i hi)).symm, sumCovered_all s fun i hi => (actionsReleased_eq (h i hi)).symm,
    sumCovered_all s fun i hi => (stillActive_eq (h i hi)).symm]
  simp

end Request

/-! ## The request block -/

theorem readClearFaults_slot (i : Slot) : readClearFaults [BitVec.ofNat 8 i.val] = some (some i) := by
  have hbyte : byteAt [BitVec.ofNat 8 i.val] 0 = i.val := by
    show (BitVec.ofNat 8 i.val).toNat = i.val
    rw [BitVec.toNat_ofNat, Nat.mod_eq_of_lt (by omega)]
  have hslot : i.val ≠ 255 := by omega
  rw [readClearFaults, if_pos (List.length_singleton), hbyte, contentOf, if_neg hslot, slotOf_val]
  rfl

theorem readClearFaults_all : readClearFaults [255] = some none := rfl

end Sys2Proof.Machine

open Sys2Proof Sys2Proof.Machine

/-- Settles O29: a covered slot is acknowledged and counted, every other slot stands, and BUDGET is covered by ALL alone. -/
theorem clearFaultsAcknowledges : Obligations.ClearFaultsAcknowledges := by
  refine ⟨fun p i s hacc hi hp => ?named, fun p i s hacc hi => ?vacant, fun p s hacc => ?all⟩
  case named =>
    have hdo := doClearFaults_of_named (s.setAuth (trafficAuth p s)) p hi
    have hexec : exec (.clearFaults p [BitVec.ofNat 8 i.val]) s = .next (notify s _) :=
      congrArg Host.Outcome.next (posted_accepted s hacc (readClearFaults_slot i) (f := doClearFaults p))
    have hsettled := settled_cleared (s.setAuth (trafficAuth p s)) (some i) ((covers_named_iff _ i i).mpr rfl)
    rw [hdo, clearResult_named _ hsettled] at hexec
    obtain ⟨hresult, hbusy⟩ := port_finish ((s.setAuth (trafficAuth p s)).cleared (some i)) p .clearFaults _
    exact ⟨_, hexec, acknowledged_of_settled hsettled,
      fun j hj => tile_cleared_other (s.setAuth (trafficAuth p s)) (some i) hp fun h => hj ((covers_named_iff _ i j).mp h),
      (result_notify _ s p).trans hresult, (busy_notify _ s p).trans hbusy, rfl⟩
  case vacant =>
    obtain ⟨hports, hframe⟩ := posted_refused hacc (readClearFaults_slot i) (f := doClearFaults p)
      (doClearFaults_of_vacant (s.setAuth (trafficAuth p s)) p hi)
    exact ⟨_, rfl, hports, hframe⟩
  case all =>
    have hexec : exec (.clearFaults p [255]) s = .next (notify s _) :=
      congrArg Host.Outcome.next (posted_accepted s hacc readClearFaults_all (f := doClearFaults p))
    have hsettled := fun i => settled_cleared (s.setAuth (trafficAuth p s)) none (i := i)
    rw [doClearFaults_of_all, clearResult_all _ hsettled] at hexec
    obtain ⟨hresult, hbusy⟩ := port_finish ((s.setAuth (trafficAuth p s)).cleared none) p .clearFaults _
    refine ⟨_, hexec, clearBudget_all _, fun ha hl => pending_cond_notify (condDue_of_budgetLatched ?_),
      fun i hi => acknowledged_of_settled (hsettled i ((covers_all_iff _ i).mpr hi)),
      fun hp i hi => tile_cleared_other (s.setAuth (trafficAuth p s)) none hp fun h => (covers_all_iff _ i).mp h hi,
      (result_notify _ s p).trans hresult, (busy_notify _ s p).trans hbusy, rfl⟩
    show s.budget.latched ≠ (clearBudget none s.budget).latched
    rw [clearBudget_all, ha, hl]
    nofun

end

section
/-! PROOFS. The budget evaluation (R151 to R156): the candidate, the verdict from CLEAR, what each recovery mode makes of it from
TRIPPED, and where a recomputation shows it. -/

namespace Sys2Proof.Machine

/-! ## The candidate and the verdict from CLEAR -/

section Clear

variable {x : BudgetSettings} {e : Nat}

theorem BudgetSettings.over_iff : x.over e = true ↔ x.budget * 10 < e := decide_eq_true_iff

theorem candidate_of_within (h : e ≤ x.budget * 10) : x.candidate e = 4096 :=
  if_neg (by rw [BudgetSettings.over_iff]; omega)

theorem candidate_of_over (h : x.budget * 10 < e) : x.candidate e = max 1024 (min 4096 (x.budget * 10 * 4096 / e)) :=
  (if_pos (BudgetSettings.over_iff.mpr h)).trans (clampNat_eq _ (by decide))

theorem evalClear_of_within (h : e ≤ x.budget * 10) : evalClear x e = ⟨.clear, 4096, 0, false⟩ :=
  if_neg (by rw [BudgetSettings.over_iff]; omega)

theorem evalClear_of_over (h : x.budget * 10 < e) : evalClear x e =
    ⟨.tripped, if x.mode = .report then 4096 else x.candidate e, if x.mode = .count then x.count else 0, true⟩ :=
  if_pos (BudgetSettings.over_iff.mpr h)

end Clear

/-! ## The verdict of a unit that is not OFF -/

section Verdict

variable {b : Budget} {e : Nat}

/-- The verdict that a unit's state and mode give at an estimate, where the state is not OFF (R153 to R156). -/
def Budget.verdict (b : Budget) (e : Nat) : BudgetVerdict :=
  if b.state = .tripped then evalTripped b.set e b.sb b.hold else evalClear b.set e

/-- In state OFF no evaluation is made (R151). -/
theorem Budget.evaluate_of_off (h : b.state = .off) : b.evaluate e = ({ b with estimate := e }, false) := by
  simp only [Budget.evaluate, h]

theorem Budget.evaluate_of_on (h : b.state ≠ .off) :
    b.evaluate e = ({ b with estimate := e }.apply e (b.verdict e) true, (b.verdict e).trip) := by
  cases hstate : b.state with
  | off => exact absurd hstate h
  | clear => simp only [Budget.evaluate, Budget.verdict, hstate, reduceCtorEq, if_false]
  | tripped => simp only [Budget.evaluate, Budget.verdict, hstate, if_true]

theorem Budget.evaluate_estimate : (b.evaluate e).1.estimate = e := by
  by_cases h : b.state = .off
  · rw [Budget.evaluate_of_off h]
  · rw [Budget.evaluate_of_on h]
    rfl

/-- BUDGET's active flag is set exactly while a verdict has left the unit TRIPPED (R152). -/
theorem Budget.apply_active_iff (v : BudgetVerdict) (counted : Bool) :
    (b.apply e v counted).active = true ↔ (b.apply e v counted).state = .tripped := beq_iff_eq

/-- The unit is evaluated as from state CLEAR: it is CLEAR, or its recovery mode asks for a new evaluation each time, or the hold of a
COUNT has run out (R153, R155, R156). -/
def Budget.JudgedAfresh (b : Budget) : Prop :=
  b.state = .clear ∨ b.state = .tripped
    ∧ (b.set.mode = .next ∨ b.set.mode = .report ∨ b.set.mode = .count ∧ b.hold ≤ 1)

theorem Budget.JudgedAfresh.on (h : b.JudgedAfresh) : b.state ≠ .off := by
  rcases h with h | ⟨h, _⟩ <;> (rw [h]; decide)

/-- A verdict made afresh is the one from CLEAR; whether it is a trip is its own from CLEAR and under COUNT (R152, R155). -/
theorem Budget.JudgedAfresh.verdict (h : b.JudgedAfresh) (e : Nat) :
    ∃ trip, b.verdict e = { evalClear b.set e with trip := trip }
      ∧ (b.state = .clear ∨ b.set.mode = .count → trip = (evalClear b.set e).trip) := by
  unfold Budget.verdict
  rcases h with hclear | ⟨htripped, hmode⟩
  · exact ⟨_, if_neg (by rw [hclear]; decide), fun _ => rfl⟩
  · rw [if_pos htripped, htripped]
    unfold evalTripped
    rcases hmode with hm | hm | ⟨hm, hhold⟩ <;> rw [hm]
    · exact ⟨false, rfl, by simp⟩
    · exact ⟨false, rfl, by simp⟩
    · exact ⟨_, if_neg (by omega), fun _ => rfl⟩

/-- Under BELOW a TRIPPED unit is released at its threshold, and above it Sb can only fall (R154). -/
theorem Budget.verdict_of_below (htripped : b.state = .tripped) (hm : b.set.mode = .below) : b.verdict e =
    if e ≤ b.set.threshold then ⟨.clear, 4096, 0, false⟩ else ⟨.tripped, min b.sb (b.set.candidate e), b.hold, false⟩ := by
  rw [Budget.verdict, if_pos htripped, evalTripped, hm]

/-- Under COUNT a TRIPPED unit keeps Sb while its hold runs (R155). -/
theorem Budget.verdict_of_holding (htripped : b.state = .tripped) (hm : b.set.mode = .count) (hhold : 1 < b.hold) :
    b.verdict e = ⟨.tripped, b.sb, b.hold - 1, false⟩ := by
  rw [Budget.verdict, if_pos htripped, evalTripped, hm]
  exact if_pos hhold

end Verdict

/-! ## Where a recomputation shows it -/

section Recompute

variable (s : State)

/-- A recomputation evaluates the unit once, at the estimate that it leaves (R150, R151). -/
theorem budget_recompute : (recompute s).budget = (s.budget.evaluate (recompute s).budget.estimate).1 := by
  show (Budget.evaluate _ _).1 = (s.budget.evaluate (Budget.evaluate _ _).1.estimate).1
  rw [Budget.evaluate_estimate]

/-- A trip of the recomputation is told at every port (R145, R152). -/
theorem pending_cond_recompute (h : (s.budget.evaluate (recompute s).budget.estimate).2 = true) (q : Port) :
    ((recompute s).port q).pending.cond = true := by
  have htrip : (Budget.evaluate s.budget (Budget.evaluate _ _).1.estimate).2 = true := h
  rw [Budget.evaluate_estimate] at htrip
  rw [recompute, State.port_noticeAll, htrip]
  exact Bool.or_true _

variable {s} {k : Slot}

/-- The evaluation as an ADOPT with no reply shows it, where no sweep is RUNNING (R4, R80). -/
theorem exec_adoptNoReply_evaluates (ha : s.chain.activity = .adopt k) (hr : s.sweep.state ≠ .running) :
    ∃ t e, exec .adoptNoReply s = .next t ∧ t.budget = (s.budget.evaluate e).1
      ∧ ((s.budget.evaluate e).2 = true → ∀ q, (t.port q).pending.cond = true) := by
  have hphase : probePhase s = completePollPhase s := if_neg hr
  have hexec : exec .adoptNoReply s = .next (notify s (completePollPhase s)) := by
    show execAdoptNoReply s = _
    simp only [execAdoptNoReply, ha, event, hphase]
  obtain ⟨a, _, hframe⟩ := completePollPhase_frame s
  refine ⟨_, (recompute s).budget.estimate, hexec, ?_, fun htrip q => ?_⟩
  · rw [hframe]
    exact budget_recompute s
  · refine (PendingKept.of_notify _ s).cond ?_
    rw [hframe]
    exact pending_cond_recompute s htrip q

end Recompute

end Sys2Proof.Machine

open Sys2Proof Sys2Proof.Machine

/-- Settles O51, by the verdict that the unit's state and mode give. -/
theorem budgetIsEvaluatedByItsMode : Obligations.BudgetIsEvaluatedByItsMode := by
  intro k s ha hr
  obtain ⟨t, e, ht, hbudget, hcond⟩ := exec_adoptNoReply_evaluates ha hr
  refine ⟨t, s.budget.set.candidate e, ht, ?_⟩
  rw [hbudget, Budget.evaluate_estimate]
  refine ⟨(Budget.evaluate_kept _ e).set, fun hoff => ?_, candidate_of_within, candidate_of_over, fun hon => ?_, fun hfresh => ?_,
    fun htripped hm => ?_, fun htripped hm hhold => ?_⟩
  · rw [Budget.evaluate_of_off hoff]
  · rw [Budget.evaluate_of_on hon]
    exact ⟨rfl, Budget.apply_active_iff _ _⟩
  · have hfresh : s.budget.JudgedAfresh := hfresh
    obtain ⟨trip, hverdict, htrip⟩ := hfresh.verdict e
    rw [Budget.evaluate_of_on hfresh.on, hverdict] at hcond ⊢
    refine ⟨fun hwithin => ?_, fun hover => ?_⟩
    · rw [evalClear_of_within hwithin]
      exact ⟨rfl, rfl⟩
    · rw [evalClear_of_over hover] at htrip ⊢
      refine ⟨rfl, rfl, fun hm => if_pos hm, fun hcounts => ?_⟩
      obtain rfl : trip = true := htrip hcounts
      exact ⟨Bool.or_true _, rfl, hcond rfl⟩
  · have hon : s.budget.state ≠ .off := by rw [htripped]; decide
    rw [Budget.evaluate_of_on hon, Budget.verdict_of_below htripped hm]
    refine ⟨fun hreleased => ?_, fun hheld => ?_⟩
    · rw [if_pos (show e ≤ s.budget.set.threshold from hreleased)]
      exact ⟨rfl, rfl⟩
    · rw [if_neg (show ¬e ≤ s.budget.set.threshold from Nat.not_le.mpr hheld)]
      exact ⟨rfl, rfl⟩
  · have hon : s.budget.state ≠ .off := by rw [htripped]; decide
    rw [Budget.evaluate_of_on hon, Budget.verdict_of_holding htripped hm hhold]
    exact ⟨rfl, rfl, rfl, rfl⟩

end

section
/-! PROOFS. SET-BUDGET: what it makes of the unit (R148, R149), the slots that a changed Sb re-forms (R99, R100), and the request
whole. -/

namespace Sys2Proof.Machine

/-! ## The unit -/

section Unit

variable (x : BudgetBlock) (b : Budget)

/-- The unit that a SET-BUDGET leaves. -/
def Budget.changed : Budget := b.afterSet { b with set := budgetAfter x b.set }

/-- The settings of the unit, each given and clamped or else kept (R148). -/
theorem budgetAfter_eq (r : BudgetSettings) : budgetAfter x r =
    ⟨(x.budget.map fun v => if v = 0 then 0 else max 100 v).getD r.budget, x.mode.getD r.mode,
      (x.hysteresis.map fun v => max 1 (min 50 v)).getD r.hysteresis, (x.count.map fun v => max 1 (min 255 v)).getD r.count⟩ := by
  rw [budgetAfter, setTo_eq, setTo_id, setTo_clampNat_eq _ _ (by decide), setTo_clampNat_eq _ _ (by decide)]
  rfl

/-- A SET-BUDGET asks for an evaluation: the budget or the mode changes, or the unit was OFF (R149). -/
def Budget.Asks (b : Budget) (r : BudgetSettings) : Prop :=
  r.budget ≠ b.set.budget ∨ r.mode ≠ b.set.mode ∨ b.state = .off

variable {x b}

theorem Budget.changed_of_zero (h : (budgetAfter x b.set).budget = 0) : b.changed x =
    { b with set := budgetAfter x b.set, state := .off, sb := 4096, hold := 0, active := false } := if_pos h

theorem Budget.changed_of_asks (h : (budgetAfter x b.set).budget ≠ 0) (hasks : b.Asks (budgetAfter x b.set)) : b.changed x =
    { b with set := budgetAfter x b.set }.apply b.estimate (evalClear (budgetAfter x b.set) b.estimate)
      (b.state != BudgetState.tripped) :=
  (if_neg h).trans (if_pos hasks)

theorem Budget.changed_of_quiet (h : (budgetAfter x b.set).budget ≠ 0) (hquiet : ¬b.Asks (budgetAfter x b.set)) :
    b.changed x = { b with set := budgetAfter x b.set } :=
  (if_neg h).trans (if_neg hquiet)

/-- Every case takes the new settings and keeps the held estimate (R149). -/
theorem Budget.changed_keeps : (b.changed x).set = budgetAfter x b.set ∧ (b.changed x).estimate = b.estimate := by
  by_cases h0 : (budgetAfter x b.set).budget = 0
  · rw [Budget.changed_of_zero h0]
    exact ⟨rfl, rfl⟩
  · by_cases hasks : b.Asks (budgetAfter x b.set)
    · rw [Budget.changed_of_asks h0 hasks]
      exact ⟨rfl, rfl⟩
    · rw [Budget.changed_of_quiet h0 hasks]
      exact ⟨rfl, rfl⟩

end Unit

/-! ## The slots -/

section Slots

variable (x : BudgetBlock) (s : State)

/-- The tiles that a SET-BUDGET leaves: re-formed where Sb has changed (R99). -/
def State.rebudgeted : Table Tile 64 :=
  if (s.budget.changed x).sb = s.budget.sb then s.tiles
  else s.tiles.map (formTile .reform s.showRec.m (s.budget.changed x).sb)

variable {x s}

theorem rebudgeted_of_same (h : (s.budget.changed x).sb = s.budget.sb) : s.rebudgeted x = s.tiles := if_pos h

theorem rebudgeted_of_changed (h : (s.budget.changed x).sb ≠ s.budget.sb) (i : Slot) :
    (s.rebudgeted x).get i = formTile .reform s.showRec.m (s.budget.changed x).sb (s.tile i) := by
  rw [State.rebudgeted, if_neg h, Table.get_map]
  rfl

theorem rebudgeted_cases (i : Slot) : (s.rebudgeted x).get i = s.tile i
    ∨ (s.rebudgeted x).get i = formTile .reform s.showRec.m (s.budget.changed x).sb (s.tile i) := by
  by_cases h : (s.budget.changed x).sb = s.budget.sb
  · rw [rebudgeted_of_same h]
    exact .inl rfl
  · exact .inr (rebudgeted_of_changed h i)

/-- A slot that takes no coefficients, or has no applied gains yet, stands (R100). -/
theorem rebudgeted_of_gainless {i : Slot} (h : (s.tile i).gain = none) : (s.rebudgeted x).get i = s.tile i := by
  rcases rebudgeted_cases (x := x) i with hi | hi
  · exact hi
  · rw [hi, formTile, h]

/-- A re-formation moves the pending coefficients and the engine record alone (R83, R99). -/
theorem rebudgeted_frame (i : Slot) : SameButPending (s.tile i).chain ((s.rebudgeted x).get i).chain
    ∧ ((s.rebudgeted x).get i).slew = (s.tile i).slew ∧ ((s.rebudgeted x).get i).prot = (s.tile i).prot
    ∧ ((s.rebudgeted x).get i).temp = (s.tile i).temp ∧ ((s.rebudgeted x).get i).held = (s.tile i).held := by
  rcases rebudgeted_cases (x := x) i with hi | hi <;> rw [hi]
  · exact ⟨rfl, rfl, rfl, rfl, rfl⟩
  · exact ⟨formTile_chain _ _ _ _, formTile_slew _ _ _ _, formTile_prot _ _ _ _, formTile_temp _ _ _ _, formTile_held _ _ _ _⟩

end Slots

theorem Tile.gain_of_dark {t : Tile} (hactive : t.chain.state ≠ .active) (hunprofiled : t.chain.state ≠ .unprofiled) :
    t.gain = none := by
  unfold Tile.gain
  cases h : t.chain.state with
  | active => exact absurd h hactive
  | unprofiled => exact absurd h hunprofiled
  | vacant | joining | lost => rfl

theorem Tile.gain_of_active {t : Tile} (h : t.chain.state = .active) : t.gain = t.slew.ga := by
  rw [Tile.gain, h]

/-! ## The request -/

/-- Where no flag and no action of a slot moves, COND is due by BUDGET's two flags (R145). -/
theorem condDue_of_sameProt {before after : State} (h : ∀ i, (after.tile i).prot = (before.tile i).prot) :
    condDue before after
      = (before.budget.active != after.budget.active || before.budget.latched != after.budget.latched) := by
  have hslots : (slots.any fun i => !(before.tile i).prot.sameFlags (after.tile i).prot) = false := by
    simp [h, ProtRec.sameFlags_self]
  rw [condDue, hslots, Bool.false_or]

/-- The result data of a SET-BUDGET (R148). -/
def Budget.shown (b : Budget) : ResultData := .budget b.set b.state b.sb b.estimate

section Request

variable (p : Port) (x : BudgetBlock) (s : State)

theorem doSetBudget_eq : doSetBudget p x s = finish p .setBudget (s.budget.changed x).shown
    ((s.setBudget (s.budget.changed x)).setTiles (s.rebudgeted x)) := by
  unfold State.rebudgeted
  by_cases h : (s.budget.changed x).sb = s.budget.sb
  · rw [if_pos h]
    exact congrArg (fun u : State => finish p .setBudget u.budget.shown u) (if_pos h)
  · rw [if_neg h]
    exact congrArg (fun u : State => finish p .setBudget u.budget.shown u) (if_neg h)

theorem budget_doSetBudget : (doSetBudget p x s).budget = s.budget.changed x := by
  rw [doSetBudget_eq]
  rfl

theorem tiles_doSetBudget : (doSetBudget p x s).tiles = s.rebudgeted x := by
  rw [doSetBudget_eq]
  rfl

/-- A SET-BUDGET tells of COND alone, by BUDGET's flags (R145, R149). -/
theorem notify_doSetBudget (a : Authority) : notify s (doSetBudget p x (s.setAuth a)) = (doSetBudget p x (s.setAuth a)).noticeAll
    { cond := s.budget.active != (s.budget.changed x).active || s.budget.latched != (s.budget.changed x).latched } := by
  have hslot : ∀ i, SameButPending (s.tile i).chain ((doSetBudget p x (s.setAuth a)).tile i).chain
      ∧ ((doSetBudget p x (s.setAuth a)).tile i).prot = (s.tile i).prot := by
    intro i
    obtain ⟨hchain, _, hprot, _⟩ := rebudgeted_frame (x := x) (s := s.setAuth a) i
    rw [State.tile, State.tile, tiles_doSetBudget]
    exact ⟨hchain, hprot⟩
  rw [notify, tileDue_false fun i => (hslot i).1.tileNotice, condDue_of_sameProt fun i => (hslot i).2, budget_doSetBudget]
  rfl

variable {p x s}

/-- The request whole: the unit, the slots, the completion at its port with COND at every port, and the frame. -/
theorem exec_setBudget {block : List Byte} (hacc : Accepts .setBudget p s) (hx : readBudget block = some x) :
    ∃ t, exec (.setBudget p block) s = .next t ∧ t.budget = s.budget.changed x ∧ t.tiles = s.rebudgeted x
      ∧ PortsAfter p ⟨.setBudget, .done, none, (s.budget.changed x).shown⟩
          { cond := s.budget.active != (s.budget.changed x).active || s.budget.latched != (s.budget.changed x).latched } s t
      ∧ t = { s with ports := t.ports, auth := trafficAuth p s, budget := t.budget, tiles := t.tiles } := by
  refine ⟨_, congrArg Host.Outcome.next (posted_accepted s hacc hx), ?_⟩
  rw [notify_doSetBudget, doSetBudget_eq]
  exact ⟨rfl, rfl, complete_noticeAll_spec (((s.setAuth (trafficAuth p s)).setBudget (s.budget.changed x)).setTiles
    (s.rebudgeted x)) p .setBudget .done none _ _, rfl⟩

end Request

end Sys2Proof.Machine

open Sys2Proof Sys2Proof.Machine

/-- Settles O27: the unit by whether the budget is 0 and whether an evaluation is asked for, then the slots by whether Sb has
changed. -/
theorem setBudgetActsAtOnce : Obligations.SetBudgetActsAtOnce := by
  intro p block x s hacc hx
  obtain ⟨t, ht, hbudget, htiles, hports, hframe⟩ := exec_setBudget hacc hx
  have htile : ∀ i, t.tile i = (s.rebudgeted x).get i := fun i => by rw [State.tile, htiles]
  obtain ⟨hset, hestimate⟩ := Budget.changed_keeps (x := x) (b := s.budget)
  refine ⟨t, ht, ?_⟩
  rw [← hbudget] at hset hestimate hports
  have hafter := budgetAfter_eq x s.budget.set
  refine ⟨by rw [hset, hafter], by rw [hset, hafter], by rw [hset, hafter], by rw [hset, hafter], hestimate, ?_⟩
  rw [hset]
  refine ⟨fun h0 => ?zero, fun h0 hbud hmode hon => ?quiet,
    fun h0 hasks => ⟨fun hwithin => ?withinBudget, fun hover => ?overBudget⟩, fun hsame => ?same, fun hmoved i g hg => ?reformed,
    fun i hactive hunprofiled => ?dark, fun i hactive hga => ?unset, fun i => ?frame, hset ▸ hports, hframe⟩
  case zero =>
    rw [hbudget, Budget.changed_of_zero h0]
    exact ⟨rfl, rfl, rfl, rfl, rfl, rfl⟩
  case quiet =>
    have hquiet : ¬s.budget.Asks (budgetAfter x s.budget.set) := by
      rintro (h | h | h)
      · exact h hbud
      · exact h hmode
      · exact hon h
    rw [hbudget, Budget.changed_of_quiet h0 hquiet]
  case withinBudget =>
    rw [hbudget, Budget.changed_of_asks h0 hasks, evalClear_of_within hwithin]
    exact ⟨rfl, rfl, rfl, Bool.or_false _, rfl⟩
  case overBudget =>
    rw [hbudget, Budget.changed_of_asks h0 hasks, evalClear_of_over hover, candidate_of_over hover]
    refine ⟨rfl, rfl, rfl, rfl, ?_⟩
    by_cases htripped : s.budget.state = .tripped
    · rw [if_pos htripped, htripped]
      rfl
    · rw [if_neg htripped]
      exact if_pos (bne_iff_ne.mpr htripped)
  case same => rw [htiles, rebudgeted_of_same (hbudget ▸ hsame)]
  case reformed =>
    have hgain : (s.tile i).gain = some g := Tile.FormsFrom.gain hg
    rw [hbudget] at hmoved ⊢
    rw [htile, rebudgeted_of_changed hmoved, formTile_of_gain hgain]
    exact ⟨rfl, rfl, rfl⟩
  case dark => rw [htile, rebudgeted_of_gainless (Tile.gain_of_dark hactive hunprofiled)]
  case unset => rw [htile, rebudgeted_of_gainless ((Tile.gain_of_active hactive).trans hga)]
  case frame =>
    rw [htile]
    exact rebudgeted_frame i

end

section
/-! PROOFS. The table of a SENSE reply (R167, R168): what the sequencer makes of a count at a range, and the commands that bring it the
reply or the expiry of its window. -/

namespace Sys2Proof.Machine

/-! ## The classes of a count -/

section Table
variable {count r : Nat}

/-- A count that is UNDER asks for the next range while there is one. -/
theorem senseEnd_of_under (h : count < 256) :
    senseEnd (classOf count) r = if r < 3 then none else some (.failed .under) := by
  rw [classOf, if_pos h]
  rfl

theorem senseEnd_of_ok (hlo : 256 ≤ count) (hhi : count ≤ 4094) : senseEnd (classOf count) r = some .accepted := by
  rw [classOf, if_neg (by omega), if_pos (by omega)]
  rfl

/-- A count that is OVER is UNSTABLE above range 0, where the range below was UNDER. -/
theorem senseEnd_of_over (h : count = 4095) :
    senseEnd (classOf count) r = if r = 0 then some (.failed .over) else some (.failed .unstable) := by
  rw [h]
  rfl

end Table

/-! ## What the sequencer makes of it -/

/-- The sweep record that keeps a count at range `r` as the luminance read on channel `c` (R168). -/
def SweepRec.reading (w : SweepRec) (c : Chan) (count r : Nat) : SweepRec :=
  { w with readings := w.readings.put c (some (luminanceOf count r)) }

section Reply
variable {i : Slot} {c : Chan} {r count : Nat} {s : State}

/-- A SENSE reply moves the sweep record and the chain controller's activity alone. -/
theorem senseReplied_frame :
    ∃ w a, senseReplied i c r count s = (s.setSweep w).setActivity a := by
  unfold senseReplied
  split
  · exact ⟨s.sweep, _, rfl⟩
  · split
    · exact ⟨s.sweep, _, rfl⟩
    · exact ⟨_, _, rfl⟩
    · exact ⟨s.sweep, _, rfl⟩

variable (hd : discarding s = false)
include hd

theorem sendPatchOff_of_kept (e : ProbeEnd) : sendPatchOff i c r e s = s.setActivity (.patchOff i c r e) := by
  rw [sendPatchOff, hd]
  rfl

theorem senseReplied_of_nextRange (h : senseEnd (classOf count) r = none) :
    senseReplied i c r count s = s.setActivity (.sense i c (r + 1)) := by
  simp only [senseReplied, hd, h]
  rfl

/-- An accepted count is kept as luminance, and PATCH OFF is sent (R166, R168). -/
theorem senseReplied_of_accepted (h : senseEnd (classOf count) r = some .accepted) :
    senseReplied i c r count s = (s.setSweep (s.sweep.reading c count r)).setActivity (.patchOff i c r .accepted) := by
  simp only [senseReplied, hd, h]
  exact sendPatchOff_of_kept (s := s.setSweep (s.sweep.reading c count r)) hd .accepted

theorem senseReplied_of_failed {why : ProbeReason} (h : senseEnd (classOf count) r = some (.failed why)) :
    senseReplied i c r count s = s.setActivity (.patchOff i c r (.failed why)) := by
  simp only [senseReplied, hd, h]
  exact sendPatchOff_of_kept hd (.failed why)

end Reply

/-! ## The commands -/

section Commands
variable {i : Slot} {c : Chan} {r : Nat} {s : State} (ha : s.chain.activity = .sense i c r)
include ha

/-- A valid SENSE reply clears a miss count beside its effect, of which no notice tells. -/
theorem exec_senseReply {count : Nat} (st : SenseStatus) (hc : count ≤ 4095) :
    exec (.senseReply st count) s = .next (senseReplied i c r count (answeredAt i s)) := by
  have hok : senseCountOk count = true := decide_eq_true hc
  have hexec : exec (.senseReply st count) s
      = .next (event (fun s => senseReplied i c r count (answeredAt i s)) s) := by
    show execSenseReply st count s = _
    simp only [execSenseReply, ha, hok, if_true]
  obtain ⟨w, a, hframe⟩ := senseReplied_frame (i := i) (c := c) (r := r) (count := count) (s := answeredAt i s)
  rw [hexec, event_of_quietTile s _ i (s.tile i).answered (by rw [hframe]; rfl) rfl rfl rfl (by rw [hframe]; rfl)]

/-- The expiry of the reply window is a miss, and the channel fails NOREPLY (R167). -/
theorem exec_senseMiss (hd : discarding s = false) : exec .senseMiss s
    = .next (notify s ((missAt i s).setActivity (.patchOff i c r (.failed .noReply)))) := by
  have hexec : exec .senseMiss s
      = .next (notify s (sendPatchOff i c r (.failed .noReply) (missAt i s))) := by
    show execSenseMiss s = _
    simp only [execSenseMiss, ha]
    rfl
  rw [hexec, sendPatchOff_of_kept (s := missAt i s) hd]

end Commands

end Sys2Proof.Machine

open Sys2Proof Sys2Proof.Machine

/-- Settles O42, class by class of the count, and for the window that expires. -/
theorem senseReplyIsClassedByItsCount : Obligations.SenseReplyIsClassedByItsCount := by
  intro i c r s ha hd
  refine ⟨fun st count hc => ⟨_, exec_senseReply ha st hc, ?under, ?underAtLast, ?ok, ?overAtFirst, ?overAbove, ?ports⟩,
    _, exec_senseMiss ha hd, rfl, rfl⟩
  case under =>
    intro h hr
    rw [senseReplied_of_nextRange (s := answeredAt i s) hd ((senseEnd_of_under h).trans (if_pos hr))]
    exact ⟨rfl, rfl⟩
  case underAtLast =>
    intro h hr
    rw [senseReplied_of_failed (s := answeredAt i s) hd ((senseEnd_of_under h).trans (if_neg (by omega)))]
    exact ⟨rfl, rfl⟩
  case ok =>
    intro hlo hhi
    rw [senseReplied_of_accepted (s := answeredAt i s) hd (senseEnd_of_ok hlo hhi)]
    exact ⟨rfl, rfl⟩
  case overAtFirst =>
    intro h hr
    rw [senseReplied_of_failed (s := answeredAt i s) hd ((senseEnd_of_over h).trans (if_pos hr))]
    exact ⟨rfl, rfl⟩
  case overAbove =>
    intro h hr
    rw [senseReplied_of_failed (s := answeredAt i s) hd ((senseEnd_of_over h).trans (if_neg (by omega)))]
    exact ⟨rfl, rfl⟩
  case ports =>
    obtain ⟨w, a, hframe⟩ := senseReplied_frame (i := i) (c := c) (r := r) (count := count) (s := answeredAt i s)
    rw [hframe]
    rfl

end

section
/-! PROOFS. The ABORT of a sweep and the acceptance of a SWEEP (R162, R163, R172, R173, R199): whether a probe step of the sweep is
under way, and what the chain controller is told where the sweep is cut during one. -/

namespace Sys2Proof.Machine

/-! ## A probe step of the sweep in progress -/

theorem ownProbe_iff {s : State} : ownProbe s = true
    ↔ s.sweep.state ≠ .none ∧ s.chain.activity.probing = true ∧ s.chain.windDown = false := by
  simp [ownProbe, SweepRec.inProgress, and_assoc]

/-- Where the chain controller goes on when the sweep of its probe step has ended: a settle wait is cut short by PATCH OFF, and any
frame in flight runs to its end (R173). -/
def Activity.cutShort : Activity → Activity
  | .settle i c => .patchOff i c 0 .discarded
  | a => a

theorem Activity.cutShort_of_frame {a : Activity} (h : ∀ i c, a ≠ .settle i c) : a.cutShort = a := by
  cases a with
  | settle i c => exact absurd rfl (h i c)
  | _ => rfl

/-- The chain controller after its sweep is cut (R173). -/
def State.chainAfterCut (s : State) : ChainCtl :=
  if ownProbe s then { s.chain with windDown := true, activity := s.chain.activity.cutShort } else s.chain

section Cut
variable {s : State}

theorem chainAfterCut_of_own (h : ownProbe s = true) :
    s.chainAfterCut = { s.chain with windDown := true, activity := s.chain.activity.cutShort } := if_pos h

/-- A cut moves the chain controller's wind-down and activity alone. -/
theorem chainAfterCut_frame : s.chainAfterCut = { s.chain with
    windDown := s.chainAfterCut.windDown, activity := s.chainAfterCut.activity } := by
  unfold State.chainAfterCut
  split <;> rfl

/-- A probe step under way is wound down, be it for this sweep or, already, for one that ended before. -/
theorem chainAfterCut_windDown (hs : s.sweep.state ≠ .none) (hp : s.chain.activity.probing = true) :
    s.chainAfterCut.windDown = true := by
  cases hw : s.chain.windDown with
  | false => rw [chainAfterCut_of_own (ownProbe_iff.mpr ⟨hs, hp, hw⟩)]
  | true =>
    have hother : ¬ownProbe s = true := fun h => by
      obtain ⟨_, _, hgoing⟩ := ownProbe_iff.mp h
      exact Bool.false_ne_true (hgoing.symm.trans hw)
    rw [State.chainAfterCut, if_neg hother, hw]

theorem chainAfterCut_activity (h : ∀ i c, s.chain.activity ≠ .settle i c) :
    s.chainAfterCut.activity = s.chain.activity := by
  unfold State.chainAfterCut
  split
  · exact Activity.cutShort_of_frame h
  · rfl

theorem chainAfterCut_settle {i : Slot} {c : Chan} (hs : s.sweep.state ≠ .none) (ha : s.chain.activity = .settle i c)
    (hw : s.chain.windDown = false) : s.chainAfterCut.activity = .patchOff i c 0 .discarded := by
  rw [chainAfterCut_of_own (ownProbe_iff.mpr ⟨hs, by rw [ha]; rfl, hw⟩), ha]
  rfl

/-- A cut is the end of the sweep after the chain controller has been told. -/
theorem cutSweep_chain (v : Verdict) (why : Option Reason) :
    cutSweep v why s = endSweep v why (s.setChain s.chainAfterCut) := by
  unfold cutSweep State.chainAfterCut
  split
  · cases ha : s.chain.activity with
    | _ =>
      simp only [State.setChain_chain, ha]
      rfl
  · rfl

/-- A pre-empted sweep leaves the ports, the token, its own record and the chain controller changed, and nothing else (R173). -/
theorem preempt_frame {y : Port} (ht : s.token = .sweep y) (hi : s.sweep.issuer = some y) : preempt s = { s with
    ports := (preempt s).ports, token := .free, sweep := s.sweep.ended, chain := s.chainAfterCut } := by
  obtain ⟨_, hframe⟩ := endSweep_spec (s.setChain s.chainAfterCut) .aborted (some .preempted) y hi
  have hcut : preempt s = endSweep .aborted (some .preempted) (s.setChain s.chainAfterCut) := by
    simp only [preempt, ht, cutSweep_chain]
  rw [hcut]
  exact hframe

end Cut

/-! ## ABORT -/

section Abort
variable {p : Port} {s : State} (hr : s.inReset = false) (hb : (s.port p).busy = some .sweep)
  (hq : (s.port p).abortRequested = false)
include hr hb hq

/-- The first ABORT of a SWEEP is the sequencer's to judge (R198). -/
theorem exec_abort_of_sweep : exec (.abort p) s = .next (abortSweep p (s.setAuth (trafficAuth p s))) := by
  have hbusy : ((s.setAuth (trafficAuth p s)).port p).busy = some .sweep := hb
  have hasked : ((s.setAuth (trafficAuth p s)).port p).abortRequested = false := hq
  show Host.Outcome.next (transaction p (doAbort p) s) = _
  simp only [transaction, hr, touch_eq, doAbort, hbusy, hasked]
  rfl

end Abort

theorem abortSweep_of_step {p : Port} {s : State} (h : ownProbe s = true) : abortSweep p s = askAbort p s := if_pos h

theorem abortSweep_between {p : Port} {s : State} (h : ¬ownProbe s = true) :
    abortSweep p s = endSweep .aborted (some .byPort) s := if_neg h

/-! ## SWEEP -/

theorem doSweep_of_live (p : Port) (x : SweepParams) {s : State} (h : s.showRec.m ≠ 0) :
    doSweep p x s = refuse p .sweep .live s := if_pos h

theorem doSweep_of_dark (p : Port) (x : SweepParams) {s : State} (h : s.showRec.m = 0) : doSweep p x s
    = hold p .sweep (((preempt s).setSweep ((preempt s).sweep.accepted p x)).setToken (.sweep p)) :=
  if_neg (not_not_intro h)

section Accepted
variable (p : Port) (x : SweepParams) {s : State} (hm : s.showRec.m = 0)
include hm

theorem port_doSweep_same : (doSweep p x s).port p = { (preempt s).port p with busy := some .sweep } := by
  rw [doSweep_of_dark p x hm]
  exact State.port_putPort_same _ _ _

theorem port_doSweep_other {q : Port} (h : q ≠ p) : (doSweep p x s).port q = (preempt s).port q := by
  rw [doSweep_of_dark p x hm]
  exact port_hold_other _ p q .sweep h

/-- Beside the ports and what it pre-empts, an accepted SWEEP moves the token and the sweep record alone (R162). -/
theorem doSweep_frame : doSweep p x s = { preempt s with
    ports := (doSweep p x s).ports, token := .sweep p, sweep := (preempt s).sweep.accepted p x } := by
  rw [doSweep_of_dark p x hm]
  rfl

end Accepted

/-- A pre-emption moves no tile and not the budget unit, so that the event of an accepted SWEEP is its effect. -/
theorem exec_sweep_of_dark {p : Port} {block : List Byte} {x : SweepParams} {s : State} (hacc : Accepts .sweep p s)
    (hx : readSweep block = some x) (hm : s.showRec.m = 0)
    (ht : (preempt (s.setAuth (trafficAuth p s))).tiles = s.tiles)
    (hb : (preempt (s.setAuth (trafficAuth p s))).budget = s.budget) :
    exec (.sweep p block) s = .next (doSweep p x (s.setAuth (trafficAuth p s))) := by
  have hframe := doSweep_frame p x (s := s.setAuth (trafficAuth p s)) hm
  refine congrArg Host.Outcome.next ((posted_accepted s hacc hx).trans (notify_of_sameTiles ?_ ?_))
  · rw [hframe]
    exact ht
  · rw [hframe]
    exact hb

end Sys2Proof.Machine

open Sys2Proof Sys2Proof.Machine

/-- Settles O10: the end at once where no step of the sweep is under way, and the request noted where one is. -/
theorem abortOfASweep : Obligations.AbortOfASweep := by
  intro p s hr hb hq hissuer hstate
  have hexec := exec_abort_of_sweep hr hb hq
  refine ⟨fun h => ?_, fun hp hw => ?_⟩
  · have hbetween : ¬ownProbe (s.setAuth (trafficAuth p s)) = true := fun hown => by
      obtain ⟨_, hprobing, hwind⟩ := ownProbe_iff.mp hown
      rcases h with h | h
      · exact Bool.false_ne_true (h.symm.trans hprobing)
      · exact Bool.false_ne_true (hwind.symm.trans h)
    obtain ⟨hports, hframe⟩ := endSweep_spec (s.setAuth (trafficAuth p s)) .aborted (some .byPort) p hissuer
    rw [abortSweep_between hbetween] at hexec
    exact ⟨_, hexec, hports, hframe⟩
  · rw [abortSweep_of_step (s := s.setAuth (trafficAuth p s)) (ownProbe_iff.mpr ⟨hstate, hp, hw⟩)] at hexec
    exact ⟨_, hexec, State.port_putPort_same _ _ _, fun q hne => State.port_putPort_other _ p q _ hne, rfl⟩

/-- Settles O44: LIVE, the free token, and the sweep that is pre-empted. -/
theorem sweepIsAcceptedWhileDark : Obligations.SweepIsAcceptedWhileDark := by
  intro p block x s hacc hx
  refine ⟨fun hm => ?live, fun hm ht => ?free, fun y hm ht hy hyp => ?preempted⟩
  case live =>
    obtain ⟨hports, hframe⟩ := posted_refused hacc hx (f := doSweep p) (doSweep_of_live p x hm)
    exact ⟨_, rfl, hports, hframe⟩
  case free =>
    have hdark : (s.setAuth (trafficAuth p s)).showRec.m = 0 := hm
    have hpre : preempt (s.setAuth (trafficAuth p s)) = s.setAuth (trafficAuth p s) := preempt_of_free _ ht
    have hsame := port_doSweep_same p x hdark
    have hother := fun q => port_doSweep_other p x hdark (q := q)
    have hframe := doSweep_frame p x hdark
    rw [hpre] at hsame hother hframe
    exact ⟨_, exec_sweep_of_dark hacc hx hm (by rw [hpre]; rfl) (by rw [hpre]; rfl), hsame, hother, hframe⟩
  case preempted =>
    have hdark : (s.setAuth (trafficAuth p s)).showRec.m = 0 := hm
    obtain ⟨⟨hissuer, _⟩, _⟩ := preempt_of_sweep (s.setAuth (trafficAuth p s)) ht hy
    have hpre := preempt_frame (s := s.setAuth (trafficAuth p s)) ht hy
    have hsame := port_doSweep_same p x hdark
    have hother := (port_doSweep_other p x hdark hyp).trans hissuer
    have hframe := doSweep_frame p x hdark
    rw [hpre] at hframe
    have hchain : (doSweep p x (s.setAuth (trafficAuth p s))).chain = s.chainAfterCut := by rw [hframe]; rfl
    refine ⟨_, exec_sweep_of_dark hacc hx hm (by rw [hpre]; rfl) (by rw [hpre]; rfl), congrArg PortRec.busy hsame,
      congrArg PortRec.busy hother, congrArg PortRec.result hother, ?_⟩
    rw [hchain, ← chainAfterCut_frame]
    exact ⟨chainAfterCut_windDown, chainAfterCut_activity, fun i c => chainAfterCut_settle, hframe⟩

end

section
/-! PROOFS. The jobs of the part: who holds each port's slot, the token, the standby, the store's write, the sweep and whether an
enumeration runs, as one record, and what each change of a job makes of it (R177, R193, R199). -/

namespace Sys2Proof.Machine

/-- A port's request slot: the request that holds it BUSY, and whether its abort is requested (R192). -/
structure JobSlot where
  busy : Option ReqName
  asked : Bool

/-- The slots of the three ports. -/
structure JobSlots where
  a : JobSlot
  b : JobSlot
  s : JobSlot

/-- The slot of port `p`. -/
def JobSlots.get (r : JobSlots) : Port → JobSlot
  | .prog .A => r.a
  | .prog .B => r.b
  | .service => r.s

/-- The slots with that of port `p` replaced. -/
def JobSlots.put (r : JobSlots) (p : Port) (x : JobSlot) : JobSlots :=
  match p with
  | .prog .A => { r with a := x }
  | .prog .B => { r with b := x }
  | .service => { r with s := x }

theorem JobSlots.get_put (r : JobSlots) (p q : Port) (x : JobSlot) : (r.put p x).get q = if q = p then x else r.get q := by
  rcases p with (_ | _) | _ <;> rcases q with (_ | _) | _ <;> rfl

theorem JobSlots.put_get (r : JobSlots) (p : Port) : r.put p (r.get p) = r := by
  rcases p with (_ | _) | _ <;> rfl

/-- The slots with that of port `p` IDLE. -/
def JobSlots.free (r : JobSlots) (p : Port) : JobSlots := r.put p ⟨none, false⟩

/-- The slots with that of port `p` BUSY with request `n`. -/
def JobSlots.hold (r : JobSlots) (p : Port) (n : ReqName) : JobSlots := r.put p ⟨some n, false⟩

/-- All that `JobsInv` speaks of while RESETn is high. -/
structure Jobs where
  inReset : Bool
  slots : JobSlots
  token : Token
  holder : Option Prog
  standby : Option Prog
  write : Option StoreWrite
  sweep : SweepState
  issuer : Option Port
  enumerating : Bool

/-- The slot of a port record. -/
def PortRec.slot (r : PortRec) : JobSlot := ⟨r.busy, r.abortRequested⟩

/-- The slots of the port records. -/
def Ports.slots (r : Ports) : JobSlots := ⟨r.a.slot, r.b.slot, r.s.slot⟩

/-- The jobs of a state. -/
def State.jobs (s : State) : Jobs where
  inReset := s.inReset
  slots := s.ports.slots
  token := s.token
  holder := s.auth.holder
  standby := s.auth.standby
  write := s.store.write
  sweep := s.sweep.state
  issuer := s.sweep.issuer
  enumerating := s.chain.activity.enumerating

/-- A block of the part runs request `n` of port `p`: the token's job, the standby, or the write in flight (R177, R193, R199). -/
def Jobs.Runs (j : Jobs) (p : Port) (n : ReqName) : Prop :=
  (n = .sweep ∧ j.token = .sweep p) ∨ (n = .relearn ∧ j.token = .relearn (some p))
    ∨ (n = .claim ∧ ∃ q, p = .prog q ∧ j.standby = some q)
    ∨ ∃ w, j.write = some w ∧ w.issuer = some p ∧ w.op.request = some n

/-- Each slot is BUSY with what a block runs for it, and no abort is requested at an IDLE one. -/
structure Jobs.Held (j : Jobs) : Prop where
  busy : ∀ p n, (j.slots.get p).busy = some n ↔ j.Runs p n
  asked : ∀ p, (j.slots.get p).busy = none → (j.slots.get p).asked = false

/-- What `JobsInv` says while RESETn is high. -/
structure Jobs.Sound (j : Jobs) : Prop extends Jobs.Held j where
  up : j.inReset = false
  standbyWaits : ∀ q, j.standby = some q → j.holder = some (otherProg q)
  writeIssued : ∀ w, j.write = some w → (w.op.request = none ↔ w.issuer = none)
  sweepHolds : j.sweep ≠ .none → ∃ p, j.token = .sweep p
  sweepIssuer : ∀ p, j.token = .sweep p → j.sweep ≠ .none ∧ j.issuer = some p
  enumHolds : j.enumerating = true → ∃ x, j.token = .relearn x

/-- RESETn is high and the jobs are sound. -/
def JobsSound (s : State) : Prop := s.jobs.Sound

/-! ## Slots -/

theorem slots_get (s : State) (p : Port) : s.jobs.slots.get p = (s.port p).slot := by
  rcases p with (_ | _) | _ <;> rfl

theorem jobs_putPort (s : State) (p : Port) (x : PortRec) :
    (s.putPort p x).jobs = { s.jobs with slots := s.jobs.slots.put p x.slot } := by
  rcases p with (_ | _) | _ <;> rfl

/-- An update of a port that leaves its slot moves no job. -/
theorem jobs_putPort_same {s : State} {p : Port} {x : PortRec} (hx : x.slot = (s.port p).slot) : (s.putPort p x).jobs = s.jobs := by
  rw [jobs_putPort, hx, ← slots_get, JobSlots.put_get]

/-- The store writes for no request that another block runs (R26). -/
theorem request_ne_job {op : WriteOp} {n : ReqName} (h : op.request = some n) : n ≠ .sweep ∧ n ≠ .relearn ∧ n ≠ .claim := by
  cases op <;> cases h <;> decide

/-- No block but the request unit has a job (R191). -/
def JobsAsleep (s : State) : Prop :=
  s.store.write = none ∧ s.auth.standby = none ∧ s.sweep.state = .none ∧ s.chain.activity = .idle

/-- `JobsInv` says that the jobs are sound, RESETn's level aside, and that they sleep while it is low. -/
theorem jobsInv_iff (s : State) :
    JobsInv s ↔ Jobs.Sound { s.jobs with inReset := false } ∧ (s.inReset = true → JobsAsleep s) := by
  have hbusy : ∀ p, (s.jobs.slots.get p).busy = (s.port p).busy := fun p => by rw [slots_get]; rfl
  have hasked : ∀ p, (s.jobs.slots.get p).asked = (s.port p).abortRequested := fun p => by rw [slots_get]; rfl
  constructor
  · rintro ⟨hsweep, hrelearn, hclaim, hservice, hstandby, hissued, hwrite, hheld, hruns, hissuer, henum, hidle, hsleep⟩
    refine ⟨⟨⟨fun p n => ?_, fun p => by rw [hbusy, hasked]; exact hidle p⟩, rfl, hstandby,
      hissued, hruns, hissuer, henum⟩, hsleep⟩
    rw [hbusy]
    constructor
    · intro hp
      rcases hheld p n hp with rfl | rfl | rfl | hw
      · exact .inl ⟨rfl, (hsweep p).mp hp⟩
      · exact .inr (.inl ⟨rfl, (hrelearn p).mp hp⟩)
      · cases p with
        | prog q => exact .inr (.inr (.inl ⟨rfl, q, rfl, (hclaim q).mp hp⟩))
        | service => exact absurd hp hservice
      · exact .inr (.inr (.inr hw))
    · rintro (⟨rfl, ht⟩ | ⟨rfl, ht⟩ | ⟨rfl, q, rfl, hq⟩ | ⟨w, hw, hp, hn⟩)
      · exact (hsweep p).mpr ht
      · exact (hrelearn p).mpr ht
      · exact (hclaim q).mpr hq
      · exact (hwrite w p hw hp).trans hn
  · rintro ⟨⟨⟨hheld, hidle⟩, _, hstandby, hissued, hruns, hissuer, henum⟩, hsleep⟩
    simp only [hbusy, hasked] at hheld hidle
    have hjob : ∀ p n, (∀ op, WriteOp.request op ≠ some n) → ((s.port p).busy = some n ↔
        (n = .sweep ∧ s.token = .sweep p) ∨ (n = .relearn ∧ s.token = .relearn (some p))
          ∨ (n = .claim ∧ ∃ q, p = .prog q ∧ s.auth.standby = some q)) := by
      intro p n hn
      rw [hheld]
      exact ⟨fun h => h.imp_right (.imp_right fun h => h.resolve_right fun ⟨w, _, _, hw⟩ => hn w.op hw),
        fun h => h.imp_right (.imp_right .inl)⟩
    refine ⟨fun p => ?_, fun p => ?_, fun q => ?_, ?_, hstandby, hissued, fun w p hw hp => ?_, fun p n hp => ?_, hruns,
      hissuer, henum, hidle, hsleep⟩
    · rw [hjob p _ fun _ h => (request_ne_job h).1 rfl]
      simp
    · rw [hjob p _ fun _ h => (request_ne_job h).2.1 rfl]
      simp
    · rw [hjob _ _ fun _ h => (request_ne_job h).2.2 rfl]
      simp
    · rw [Ne, hjob _ _ fun _ h => (request_ne_job h).2.2 rfl]
      simp
    · cases hn : w.op.request with
      | none => exact absurd (hp.symm.trans ((hissued w hw).mp hn)) nofun
      | some n => exact (hheld p n).mpr (.inr (.inr (.inr ⟨w, hw, hp, hn⟩)))
    · rcases (hheld p n).mp hp with ⟨hn, _⟩ | ⟨hn, _⟩ | ⟨hn, _⟩ | hw
      · exact .inl hn
      · exact .inr (.inl hn)
      · exact .inr (.inr (.inl hn))
      · exact .inr (.inr (.inr hw))

/-- With every slot IDLE and every block at rest the jobs are sound. -/
theorem Jobs.sound_of_rest {j : Jobs} (hr : j.inReset = false) (hslots : ∀ p, j.slots.get p = ⟨none, false⟩) (ht : j.token = .free)
    (hs : j.standby = none) (hw : j.write = none) (hx : j.sweep = .none) (he : j.enumerating = false) : j.Sound := by
  have hheld : j.Held := ⟨by simp [Jobs.Runs, hslots, ht, hs, hw], by simp [hslots]⟩
  exact { hheld with
    up := hr
    standbyWaits := by simp [hs]
    writeIssued := by simp [hw]
    sweepHolds := by simp [hx]
    sweepIssuer := by simp [ht]
    enumHolds := by simp [he] }

/-! ## What a change of a job makes of sound jobs -/

namespace Jobs.Sound

variable {j : Jobs} (h : j.Sound)
include h

/-- A slot is BUSY with one request. -/
theorem runs_unique {p : Port} {n m : ReqName} (hn : j.Runs p n) (hm : j.Runs p m) : n = m :=
  Option.some.inj (((h.busy p n).mpr hn).symm.trans ((h.busy p m).mpr hm))

theorem not_runs {p : Port} (hp : (j.slots.get p).busy = none) (n : ReqName) : ¬j.Runs p n := fun hn =>
  absurd (hp.symm.trans ((h.busy p n).mpr hn)) nofun

/-- The one request `n` of port `p` is run no more, and its slot is IDLE. -/
theorem freed {k : Jobs} {p : Port} {n : ReqName} (hslots : k.slots = j.slots.free p) (hn : j.Runs p n)
    (hruns : ∀ q m, k.Runs q m ↔ j.Runs q m ∧ ¬(q = p ∧ m = n)) : k.Held := by
  constructor <;> intro q <;> rw [hslots, JobSlots.free, JobSlots.get_put] <;> by_cases hq : q = p
  · intro m
    rw [if_pos hq, hruns, hq]
    exact ⟨nofun, fun ⟨hm, hne⟩ => absurd ⟨rfl, h.runs_unique hm hn⟩ hne⟩
  · intro m
    rw [if_neg hq, hruns]
    exact (h.busy q m).trans (iff_self_and.mpr fun _ hqp => hq hqp.1)
  · rw [if_pos hq]
    exact fun _ => rfl
  · rw [if_neg hq]
    exact h.asked q

/-- Request `n` of port `p`, whose slot was IDLE, is run, and holds the slot BUSY. -/
theorem held {k : Jobs} {p : Port} {n : ReqName} (hslots : k.slots = j.slots.hold p n) (hp : (j.slots.get p).busy = none)
    (hruns : ∀ q m, k.Runs q m ↔ j.Runs q m ∨ (q = p ∧ m = n)) : k.Held := by
  constructor <;> intro q <;> rw [hslots, JobSlots.hold, JobSlots.get_put] <;> by_cases hq : q = p
  · intro m
    rw [if_pos hq, hruns, hq, or_iff_right (h.not_runs hp m), Option.some_inj]
    exact ⟨fun e => ⟨rfl, e.symm⟩, fun e => e.2.symm⟩
  · intro m
    rw [if_neg hq, hruns, or_iff_left fun e => hq e.1]
    exact h.busy q m
  · rw [if_pos hq]
    exact nofun
  · rw [if_neg hq]
    exact h.asked q

/-- Where the blocks run what they ran, the slots stand. -/
theorem kept {k : Jobs} (hslots : k.slots = j.slots) (hruns : ∀ p n, k.Runs p n ↔ j.Runs p n) : k.Held := by
  constructor <;> rw [hslots]
  · exact fun p n => (h.busy p n).trans (hruns p n).symm
  · exact h.asked

/-! ### The sweep and the enumeration -/

theorem sweepBegins {p : Port} (hp : (j.slots.get p).busy = none) (ht : j.token = .free) :
    Jobs.Sound { j with slots := j.slots.hold p .sweep, token := .sweep p, sweep := .running, issuer := some p } :=
  { h with
    toHeld := h.held rfl hp (by grind [Jobs.Runs])
    sweepHolds := fun _ => ⟨p, rfl⟩
    sweepIssuer := fun q hq => ⟨nofun, by injection hq with hq; rw [hq]⟩
    enumHolds := fun he => absurd (h.enumHolds he) (by simp [ht]) }

theorem sweepEnds {p : Port} (ht : j.token = .sweep p) :
    Jobs.Sound { j with slots := j.slots.free p, token := .free, sweep := .none } :=
  { h with
    toHeld := h.freed rfl (.inl ⟨rfl, ht⟩) (by grind [Jobs.Runs, request_ne_job])
    sweepHolds := nofun
    sweepIssuer := nofun
    enumHolds := fun he => absurd (h.enumHolds he) (by simp [ht]) }

/-- A sweep in progress stays in progress. -/
theorem sweepGoesOn {x : SweepState} (hj : j.sweep ≠ .none) (hx : x ≠ .none) : Jobs.Sound { j with sweep := x } :=
  { h with
    toHeld := h.kept rfl fun _ _ => .rfl
    sweepHolds := fun _ => h.sweepHolds hj
    sweepIssuer := fun p hp => ⟨hx, (h.sweepIssuer p hp).2⟩ }

/-- A RELEARN takes the token where it is free; one of a port holds the port's slot. -/
theorem relearnBegins {p : Port} (hp : (j.slots.get p).busy = none) (ht : j.token = .free) :
    Jobs.Sound { j with slots := j.slots.hold p .relearn, token := .relearn (some p) } :=
  { h with
    toHeld := h.held rfl hp (by grind [Jobs.Runs])
    sweepHolds := fun hs => absurd (h.sweepHolds hs) (by simp [ht])
    sweepIssuer := nofun
    enumHolds := fun _ => ⟨_, rfl⟩ }

theorem startupRelearnBegins (ht : j.token = .free) : Jobs.Sound { j with token := .relearn none } :=
  { h with
    toHeld := h.kept rfl (by grind [Jobs.Runs])
    sweepHolds := fun hs => absurd (h.sweepHolds hs) (by simp [ht])
    sweepIssuer := nofun
    enumHolds := fun _ => ⟨_, rfl⟩ }

theorem relearnEnds {p : Port} (ht : j.token = .relearn (some p)) :
    Jobs.Sound { j with slots := j.slots.free p, token := .free, enumerating := false } :=
  { h with
    toHeld := h.freed rfl (.inr (.inl ⟨rfl, ht⟩)) (by grind [Jobs.Runs, request_ne_job])
    sweepHolds := fun hs => absurd (h.sweepHolds hs) (by simp [ht])
    sweepIssuer := nofun
    enumHolds := nofun }

theorem startupRelearnEnds (ht : j.token = .relearn none) : Jobs.Sound { j with token := .free, enumerating := false } :=
  { h with
    toHeld := h.kept rfl (by grind [Jobs.Runs])
    sweepHolds := fun hs => absurd (h.sweepHolds hs) (by simp [ht])
    sweepIssuer := nofun
    enumHolds := nofun }

/-- An enumeration runs under a RELEARN alone (R20). -/
theorem setEnumerating {e : Bool} (he : e = true → ∃ x, j.token = .relearn x) : Jobs.Sound { j with enumerating := e } :=
  { h with toHeld := h.kept rfl fun _ _ => .rfl, enumHolds := he }

/-! ### The store's write -/

theorem writeBegins {p : Port} {op : WriteOp} {n : ReqName} (hp : (j.slots.get p).busy = none) (hw : j.write = none)
    (hop : op.request = some n) : Jobs.Sound { j with slots := j.slots.hold p n, write := some ⟨op, some p⟩ } :=
  { h with
    toHeld := h.held rfl hp (by grind [Jobs.Runs])
    writeIssued := fun w hw => by
      obtain rfl := Option.some.inj hw
      simp [hop] }

theorem senseWriteBegins (w : SenseWrite) (hw : j.write = none) : Jobs.Sound { j with write := some ⟨.senseWrite w, none⟩ } :=
  { h with
    toHeld := h.kept rfl (by grind [Jobs.Runs])
    writeIssued := fun v hv => by
      obtain rfl := Option.some.inj hv
      simp [WriteOp.request] }

theorem writeEnds {w : StoreWrite} {p : Port} {n : ReqName} (hw : j.write = some w) (hp : w.issuer = some p)
    (hn : w.op.request = some n) : Jobs.Sound { j with slots := j.slots.free p, write := none } :=
  { h with
    toHeld := h.freed rfl (.inr (.inr (.inr ⟨w, hw, hp, hn⟩))) (by grind [Jobs.Runs, request_ne_job])
    writeIssued := fun _ hw => absurd hw nofun }

theorem senseWriteEnds {w : StoreWrite} (hw : j.write = some w) (hp : w.issuer = none) : Jobs.Sound { j with write := none } :=
  { h with
    toHeld := h.kept rfl (by grind [Jobs.Runs])
    writeIssued := fun _ hw => absurd hw nofun }

/-! ### Authority -/

theorem claimWaits {q : Prog} (hp : (j.slots.get (.prog q)).busy = none) (hq : j.holder = some (otherProg q)) :
    Jobs.Sound { j with slots := j.slots.hold (.prog q) .claim, standby := some q } := by
  have hnone : j.standby = none := by
    cases hs : j.standby with
    | none => rfl
    | some r =>
      have hr : r = q := by
        have := Option.some.inj ((h.standbyWaits r hs).symm.trans hq)
        revert this
        cases r <;> cases q <;> decide
      exact absurd (.inr (.inr (.inl ⟨rfl, q, rfl, hr ▸ hs⟩))) (h.not_runs hp .claim)
  exact { h with
    toHeld := h.held rfl hp (by grind [Jobs.Runs])
    standbyWaits := fun r hr => by
      obtain rfl := Option.some.inj hr
      exact hq }

/-- The CLAIM of the standby ends, whoever holds authority after it. -/
theorem claimEnds {q : Prog} {x : Option Prog} (hq : j.standby = some q) :
    Jobs.Sound { j with slots := j.slots.free (.prog q), holder := x, standby := none } :=
  { h with
    toHeld := h.freed rfl (.inr (.inr (.inl ⟨rfl, q, rfl, hq⟩))) (by grind [Jobs.Runs, request_ne_job])
    standbyWaits := nofun }

/-- Authority passes where no CLAIM waits. -/
theorem setHolder (x : Option Prog) (hq : j.standby = none) : Jobs.Sound { j with holder := x } :=
  { h with toHeld := h.kept rfl fun _ _ => .rfl, standbyWaits := fun _ hs => absurd (hq.symm.trans hs) nofun }

/-- An abort is requested at a BUSY slot (R198). -/
theorem asks {p : Port} (hp : (j.slots.get p).busy ≠ none) :
    Jobs.Sound { j with slots := j.slots.put p ⟨(j.slots.get p).busy, true⟩ } := by
  have hbusy : ∀ q, ((j.slots.put p ⟨(j.slots.get p).busy, true⟩).get q).busy = (j.slots.get q).busy := by
    intro q
    rw [JobSlots.get_put]
    split
    · rename_i hq
      rw [hq]
    · rfl
  refine { h with toHeld := ⟨fun q n => by rw [hbusy]; exact h.busy q n, fun q hq => ?_⟩ }
  have hne : q ≠ p := fun e => hp (by rw [← e, ← hbusy]; exact hq)
  rw [JobSlots.get_put, if_neg hne] at hq ⊢
  exact h.asked q hq

end Jobs.Sound

end Sys2Proof.Machine
end

section
/-! PROOFS. What each operation of a round, of an enumeration and of the store makes of the jobs (R177, R193, R199). -/

namespace Sys2Proof.Machine

variable {s : State}

/-! ## Ports and sweeps -/

/-- A completion leaves its port's slot IDLE (R193). -/
theorem jobs_complete (p : Port) (n : ReqName) (v : Verdict) (why : Option Reason) (d : ResultData) (s : State) :
    (complete p n v why d s).jobs = { s.jobs with slots := s.jobs.slots.free p } := jobs_putPort _ _ _

/-- The jobs after the sweep of port `p` has ended. -/
def Jobs.endSweep (j : Jobs) (p : Port) : Jobs := { j with slots := j.slots.free p, token := .free, sweep := .none }

theorem jobs_endSweep {p : Port} (hp : s.sweep.issuer = some p) (v : Verdict) (why : Option Reason) :
    (endSweep v why s).jobs = s.jobs.endSweep p := by
  simp only [endSweep, hp]
  exact jobs_complete _ _ _ _ _ _

section
variable (h : JobsSound s)
include h

/-- A sweep in progress has the token and its issuer's slot (R163, R199). -/
theorem JobsSound.sweeping (hs : s.sweep.state ≠ .none) : ∃ p, s.token = .sweep p ∧ s.sweep.issuer = some p := by
  obtain ⟨p, hp⟩ := h.sweepHolds hs
  exact ⟨p, hp, (h.sweepIssuer p hp).2⟩

theorem JobsSound.endSweep (hs : s.sweep.state ≠ .none) (v : Verdict) (why : Option Reason) :
    JobsSound (endSweep v why s) := by
  obtain ⟨p, ht, hp⟩ := h.sweeping hs
  rw [JobsSound, jobs_endSweep hp]
  exact h.sweepEnds ht

/-- A change of the sweep record within a sweep. -/
theorem JobsSound.setSweep {x : SweepRec} (hstate : x.state = s.sweep.state) (hissuer : x.issuer = s.sweep.issuer) :
    JobsSound (s.setSweep x) := by
  have hjobs : (s.setSweep x).jobs = s.jobs := by
    simp only [State.jobs, State.setSweep_sweep, hstate, hissuer]
    rfl
  rw [JobsSound, hjobs]
  exact h

/-- A frame that is no ENUM goes out. -/
theorem JobsSound.setActivity {a : Activity} (ha : a.enumerating = false) : JobsSound (s.setActivity a) :=
  h.setEnumerating (e := a.enumerating) fun he => absurd (ha.symm.trans he) nofun

theorem JobsSound.setChain {x : ChainCtl} (hx : x.activity.enumerating = false) : JobsSound (s.setChain x) :=
  h.setEnumerating (e := x.activity.enumerating) fun he => absurd (hx.symm.trans he) nofun

theorem JobsSound.foldl {α : Type} {f : State → α → State} (hf : ∀ u x, JobsSound u → JobsSound (f u x)) (xs : List α) :
    JobsSound (xs.foldl f s) := by
  induction xs generalizing s with
  | nil => exact h
  | cons x xs ih => exact ih (hf s x h)

end

theorem JobsSound.ite {t : State} {c : Prop} [Decidable c] (hs : JobsSound s) (ht : JobsSound t) :
    JobsSound (if c then s else t) := by
  split
  · exact hs
  · exact ht

/-! ## The rest of a round -/

/-- A scan moves no sweep's state and no issuer. -/
theorem scanSlots_held (tiles : Table Tile 64) (chans : RGB Bool) (is : List Slot) (w : SweepRec) :
    (scanSlots tiles chans is w).1.state = w.state ∧ (scanSlots tiles chans is w).1.issuer = w.issuer := by
  induction is generalizing w with
  | nil => exact ⟨rfl, rfl⟩
  | cons i is ih =>
    unfold scanSlots
    dsimp only
    split
    · exact ih _
    · split
      · exact ih _
      · exact ⟨rfl, rfl⟩

section
variable (h : JobsSound s)
include h

theorem JobsSound.pushFrom (k : Nat) : JobsSound (pushFrom k s) := by
  rcases pushFrom_spec s k with ⟨e, _⟩ | ⟨i, _, _, e⟩ <;> rw [e] <;> exact h.setActivity rfl

theorem JobsSound.completePollPhase : JobsSound (completePollPhase s) := JobsSound.pushFrom (s := recompute s) h 0

theorem JobsSound.finishRange (hs : s.sweep.state ≠ .none) : JobsSound (finishRange s) :=
  .ite (h.endSweep hs _ _) (h.sweepGoesOn (x := .waiting) hs nofun)

theorem JobsSound.probeFromCursor (hs : s.sweep.state ≠ .none) : JobsSound (probeFromCursor s) := by
  unfold Machine.probeFromCursor
  split
  · exact h
  · obtain ⟨hstate, hissuer⟩ := scanSlots_held s.tiles _ s.sweep.ahead s.sweep
    have hscanned := h.setSweep hstate hissuer
    dsimp only
    split
    · exact hscanned.setActivity rfl
    · exact hscanned.finishRange (by rw [State.setSweep_sweep, hstate]; exact hs)

theorem JobsSound.probeStep (hs : s.sweep.state ≠ .none) : JobsSound (probeStep s) := by
  unfold Machine.probeStep
  split
  · exact h.probeFromCursor hs
  · dsimp only
    split
    · split
      · exact JobsSound.probeFromCursor (s := s.setSweep _) h hs
      · split
        · exact h.setActivity rfl
        · exact JobsSound.probeFromCursor (s := s.setSweep _) h hs
    · split <;> exact JobsSound.probeFromCursor (s := failTile _ _ _ s) h hs

theorem JobsSound.probePhase : JobsSound (probePhase s) := by
  unfold Machine.probePhase
  split
  · rename_i hrunning
    have hidle : JobsSound (s.setActivity .idle) := h.setActivity rfl
    have hstep := hidle.probeStep (by rw [State.setActivity, State.setChain_sweep, hrunning]; nofun)
    exact .ite hstep hstep.completePollPhase
  · exact h.completePollPhase

theorem JobsSound.pollFrom (k : Nat) : JobsSound (pollFrom k s) := by
  rcases pollFrom_spec s k with ⟨e, _⟩ | ⟨i, _, _, e⟩ <;> rw [e]
  · unfold adoptPhase
    split
    · exact h.setChain rfl
    · exact h.probePhase
  · exact h.setActivity rfl

theorem JobsSound.startRound (hidle : s.chain.activity = .idle) : JobsSound (startRound s) := by
  refine JobsSound.pollFrom (h.setChain (x := { s.chain with roundTimer := some 0, startNow := false }) ?_) 0
  simp only [hidle]
  rfl

end

/-! ## Sense writes -/

/-- The report of a sense write ends the sweep that waits for it, or moves no job (R170, R171). -/
theorem jobs_reportSense (w : SenseWrite) (ok : Bool) (s : State) :
    (reportSense w ok s).jobs = s.jobs
      ∨ ∃ p, s.sweep.state ≠ .none ∧ s.sweep.issuer = some p ∧ (reportSense w ok s).jobs = s.jobs.endSweep p := by
  have hprobe : (reportProbe w ok s).jobs = s.jobs := by
    rw [reportProbe_frame]
    rfl
  have htally : (reportTally w ok (reportProbe w ok s)).jobs = s.jobs := by
    rw [← hprobe, reportTally]
    split <;> rfl
  unfold reportSense
  generalize reportTally w ok (reportProbe w ok s) = u at htally ⊢
  have hstate : u.sweep.state = s.sweep.state := congrArg Jobs.sweep htally
  have hissuer : u.sweep.issuer = s.sweep.issuer := congrArg Jobs.issuer htally
  rw [← htally, ← hstate, ← hissuer, sweepDoneIfWaiting]
  split
  · rename_i hwaiting
    cases hp : u.sweep.issuer with
    | none => exact .inl (by simp only [endSweep, hp])
    | some p => exact .inr ⟨p, by rw [hwaiting.1]; nofun, rfl, jobs_endSweep hp _ _⟩
  · exact .inl rfl

/-- The jobs are sound once the write in flight is gone. -/
def JobsSoundIdle (s : State) : Prop := Jobs.Sound { s.jobs with write := none }

theorem JobsSoundIdle.reportSense (h : JobsSoundIdle s) (w : SenseWrite) (ok : Bool) : JobsSoundIdle (reportSense w ok s) := by
  unfold JobsSoundIdle
  rcases jobs_reportSense w ok s with e | ⟨p, hs, hp, e⟩ <;> rw [e]
  · exact h
  · obtain ⟨q, hq⟩ := h.sweepHolds hs
    obtain rfl : q = p := Option.some.inj ((h.sweepIssuer q hq).2.symm.trans hp)
    exact h.sweepEnds hq

/-- The queue reaching the store leaves it IDLE or with a sense write in flight (R26, R28). -/
theorem JobsSoundIdle.startQueue (h : JobsSoundIdle s) (ws : List SenseWrite) : JobsSound (startQueue ws s) := by
  induction ws generalizing s with
  | nil => exact h
  | cons w ws ih =>
    unfold Machine.startQueue
    split
    · exact h.senseWriteBegins w rfl
    · exact ih (h.reportSense w false)

/-- In an IDLE store no write is in flight. -/
theorem JobsSound.idle (h : JobsSound s) (hw : s.store.write = none) : JobsSoundIdle s := by
  have hjobs : { s.jobs with write := none } = s.jobs := by
    rw [← hw]
    rfl
  rw [JobsSoundIdle, hjobs]
  exact h

/-! ## The end of a probe step -/

section
variable (h : JobsSound s)
include h

theorem JobsSound.handSenseWrite (w : SenseWrite) : JobsSound (handSenseWrite w s) := by
  unfold Machine.handSenseWrite
  split
  · exact h
  · rename_i hidle
    rw [Bool.or_eq_true, not_or] at hidle
    exact (h.idle (idle_of_not_writing s hidle.1)).startQueue _

theorem JobsSound.handOver (i : Slot) : JobsSound (handOver i s) := by
  unfold Machine.handOver
  dsimp only
  split
  · exact h
  · split
    · exact h
    · split
      · exact h
      · split
        · exact h
        · exact JobsSound.handSenseWrite
            (s := s.setSweep { s.sweep.noTile with outstanding := s.sweep.outstanding + 1 }) h _

theorem JobsSound.settleProbe (i : Slot) (c : Chan) (e : ProbeEnd) : JobsSound (settleProbe i c e s) := by
  unfold Machine.settleProbe
  split
  · exact h
  · split
    · rename_i habort
      refine h.endSweep (fun hnone => ?_) _ _
      unfold sweepAborting at habort
      split at habort
      · cases habort
      · simp [SweepRec.inProgress, hnone] at habort
    · split
      · exact .ite h (h.handOver i)
      · exact h
      · exact h
      · exact h

theorem JobsSound.endProbeStep (i : Slot) (c : Chan) (e : ProbeEnd) : JobsSound (endProbeStep i c e s) :=
  (h.settleProbe i c e).completePollPhase

theorem JobsSound.senseReplied (i : Slot) (c : Chan) (r count : Nat) : JobsSound (senseReplied i c r count s) := by
  unfold Machine.senseReplied
  split
  · exact h.setActivity rfl
  · split
    · exact h.setActivity rfl
    · exact JobsSound.setActivity (s := s.setSweep { s.sweep with readings := _ }) h rfl
    · exact h.setActivity rfl

end

/-! ## Replies that move tiles alone -/

theorem jobs_pollReplied (i : Slot) (temp : Option Int) (fault : Bool) (hours load : Nat) (echo : RGB Nat) (s : State) :
    (pollReplied i temp fault hours load echo s).jobs = s.jobs := by
  have hsample : ∀ (x : Option Selection) (u : State), (arrivalSample i x u).jobs = u.jobs := by
    intro x u
    unfold arrivalSample
    dsimp only
    split <;> rfl
  exact hsample _ (arrivalReading i temp fault hours load (s.putTile i (pollConfirm echo (s.tile i))))

theorem jobs_tryBind (i : Slot) (s : State) : (tryBind i s).jobs = s.jobs := by
  rw [tryBind_frame]
  rfl

theorem jobs_adoptReplied (i : Slot) (serial : Serial) (s : State) : (adoptReplied i serial s).jobs = s.jobs := by
  unfold adoptReplied
  dsimp only
  split
  · rfl
  · exact jobs_tryBind i _

/-! ## The enumeration -/

/-- A RELEARN that ends frees its port's slot and the token (R21, R22, R23). -/
theorem JobsSound.endRelearn (h : JobsSound s) {x : Option Port} (ht : s.token = .relearn x) (v : Verdict)
    (why : Option Reason) (d : ResultData) : Jobs.Sound { (endRelearn v why d s).jobs with enumerating := false } := by
  unfold Machine.endRelearn
  cases x with
  | none =>
    simp only [ht]
    exact h.startupRelearnEnds ht
  | some p =>
    have hjobs := jobs_complete p .relearn v why d s
    simp only [ht]
    exact cast (congrArg (fun j => Jobs.Sound { j with token := .free, enumerating := false }) hjobs.symm) (h.relearnEnds ht)

/-- An enumeration that ends has left its ENUM (R21, R22). -/
theorem JobsSound.endEnumeration (h : JobsSound s) {x : Option Port} (ht : s.token = .relearn x) (v : Verdict)
    (why : Option Reason) (d : ResultData) {b : Table Tile 64} {c : ChainCtl} (hc : c.activity = .idle) :
    JobsSound (Machine.endRelearn v why d ((s.setTiles b).setChain c)) := by
  have hidle : JobsSound ((s.setTiles b).setChain c) := JobsSound.setChain (s := s.setTiles b) h (by rw [hc]; rfl)
  have hended := hidle.endRelearn ht v why d
  have henum : (Machine.endRelearn v why d ((s.setTiles b).setChain c)).jobs.enumerating = false := by
    rw [endRelearn_frame]
    exact congrArg Activity.enumerating hc
  rw [← henum] at hended
  exact hended

section
variable (h : JobsSound s)
include h

theorem JobsSound.completeEnumeration {x : Option Port} (ht : s.token = .relearn x) (n : Nat) (long : Bool) :
    JobsSound (completeEnumeration n long s) := by
  obtain ⟨b, _, e⟩ := completeEnumeration_eq s n long
  rw [e]
  exact JobsSound.endEnumeration (s := s.noticeAll _) h ht _ _ _ rfl

theorem JobsSound.abortEnumeration {x : Option Port} (ht : s.token = .relearn x) (n : Nat) :
    JobsSound (abortEnumeration n s) := by
  rw [abortEnumeration_eq]
  exact h.endEnumeration ht _ _ _ rfl

theorem JobsSound.enumReplied {x : Option Port} (ht : s.token = .relearn x) (n : Nat) (serial : Serial) :
    JobsSound (enumReplied n serial s) := by
  unfold Machine.enumReplied
  split
  · exact h.completeEnumeration ht _ _
  · have htile : ∀ i t, JobsSound (notify s (s.putTile i t)) := fun _ _ => h
    exact .ite ((htile _ _).abortEnumeration ht _) ((htile _ _).setEnumerating (e := true) fun _ => ⟨x, ht⟩)

theorem JobsSound.enumUnanswered {x : Option Port} (ht : s.token = .relearn x) (n : Nat) : JobsSound (enumUnanswered n s) := by
  unfold Machine.enumUnanswered
  split
  · exact h.completeEnumeration ht _ _
  · exact .ite (h.abortEnumeration ht n) (JobsSound.completeEnumeration (s := vacateFrom n s) h ht _ _)

theorem JobsSound.sendEnum0 {x : Option Port} (ht : s.token = .relearn x) : JobsSound (sendEnum0 s) :=
  h.setEnumerating (e := true) fun _ => ⟨x, ht⟩

end

/-! ## The store -/

/-- The report of a request's write completes the request (R29). -/
theorem report_of_request {op : WriteOp} {n : ReqName} (h : op.request = some n) (p : Port) (before s : State) :
    ∃ d, op.report (some p) before s = finish p n d s := by
  cases op <;> cases h <;> exact ⟨_, rfl⟩

theorem jobs_bound (op : WriteOp) (s : State) : (op.bound s).jobs = s.jobs := by
  have hslots : (op.bound s).ports.slots = s.ports.slots := by
    rw [WriteOp.bound, retryWaiting_frame, resolved_frame]
    rfl
  have hwrite : (op.apply s.store).write = s.store.write := by rw [apply_frame]
  unfold State.jobs
  rw [hslots, bound_frame]
  simp only [hwrite]

/-- A write that completes leaves its issuer's slot IDLE, or tells the sweep, before the queue reaches the store (R26, R29). -/
theorem JobsSound.completeWrite (h : JobsSound s) {w : StoreWrite} (hw : s.store.write = some w) :
    JobsSound (completeWrite w s) := by
  have hreport : JobsSoundIdle (w.op.report w.issuer s (w.op.bound s)) := by
    cases hp : w.issuer with
    | none =>
      have hsense : w.op.request = none := (h.writeIssued w hw).mpr hp
      have hidle : JobsSoundIdle (w.op.bound s) := by
        rw [JobsSoundIdle, jobs_bound]
        exact h.senseWriteEnds hw hp
      cases hop : w.op with
      | senseWrite v =>
        rw [hop] at hidle
        exact hidle.reportSense v true
      | _ => rw [hop] at hsense; cases hsense
    | some p =>
      obtain ⟨n, hn⟩ := Option.ne_none_iff_exists'.mp fun hnone =>
        absurd (hp.symm.trans ((h.writeIssued w hw).mp hnone)) nofun
      obtain ⟨d, hd⟩ := report_of_request hn p s (w.op.bound s)
      rw [hd, JobsSoundIdle, finish, jobs_complete, jobs_bound]
      exact h.writeEnds hw hp hn
  rw [completeWrite_eq]
  exact hreport.startQueue _

end Sys2Proof.Machine
end

section
/-! PROOFS. What each request makes of the jobs (R177, R193, R199). -/

namespace Sys2Proof.Machine

variable {s : State} {p : Port}

/-! ## A port with an IDLE slot -/

/-- Sound jobs beside the IDLE slot of the port whose request is judged. -/
structure Jobs.Ready (j : Jobs) (p : Port) : Prop where
  sound : j.Sound
  idle : (j.slots.get p).busy = none

/-- RESETn is high, the jobs are sound, and the slot of port `p` is IDLE. -/
def JobsReady (p : Port) (s : State) : Prop := s.jobs.Ready p

/-- To complete a request that holds no slot moves no slot (R193, R194). -/
theorem Jobs.Ready.free {j : Jobs} (h : j.Ready p) : j.slots.free p = j.slots := by
  have hslot : j.slots.get p = ⟨none, false⟩ := by
    rw [← h.idle, ← h.sound.asked p h.idle]
  rw [JobSlots.free, ← hslot, JobSlots.put_get]

theorem idle_free {r : JobSlots} (h : (r.get p).busy = none) (q : Port) : ((r.free q).get p).busy = none := by
  rw [JobSlots.free, JobSlots.get_put]
  split
  · rfl
  · exact h

/-- An accepted request holds its port's slot BUSY (R193). -/
theorem JobsSound.of_hold {n : ReqName} (ha : (s.port p).abortRequested = false)
    (hs : Jobs.Sound { s.jobs with slots := s.jobs.slots.hold p n }) : JobsSound (hold p n s) := by
  rw [JobsSound, hold, jobs_putPort, PortRec.slot, ha]
  exact hs

section
variable (h : JobsReady p s)
include h

/-- A request that completes at once holds no slot and moves no job. -/
theorem JobsReady.complete (n : ReqName) (v : Verdict) (why : Option Reason) (d : ResultData) :
    JobsSound (complete p n v why d s) := by
  rw [JobsSound, jobs_complete, h.free]
  exact h.sound

theorem JobsReady.finish (n : ReqName) (d : ResultData) : JobsSound (finish p n d s) := h.complete n .done none d

theorem JobsReady.refuse (n : ReqName) (why : Reason) : JobsSound (refuse p n why s) := h.complete n .refused (some why) .nothing

theorem JobsReady.notAsked : (s.port p).abortRequested = false := by
  have hasked := h.sound.asked p h.idle
  rwa [slots_get] at hasked

theorem JobsReady.endSweep (hs : s.sweep.state ≠ .none) (v : Verdict) (why : Option Reason) :
    JobsReady p (endSweep v why s) ∧ (Machine.endSweep v why s).token = .free := by
  obtain ⟨y, _, hy⟩ := JobsSound.sweeping h.sound hs
  have hsound := JobsSound.endSweep h.sound hs v why
  have hjobs := jobs_endSweep hy v why
  exact ⟨⟨hsound, by rw [hjobs]; exact idle_free h.idle y⟩, congrArg Jobs.token hjobs⟩

end

theorem JobsReady.ite {t : State} {c : Prop} [Decidable c] (hs : JobsReady p s) (ht : JobsReady p t) :
    JobsReady p (if c then s else t) := by
  split
  · exact hs
  · exact ht

/-! ## Jobs -/

/-- A probe step that is wound down stays a probe step. -/
theorem jobs_chainAfterCut (s : State) : (s.setChain s.chainAfterCut).jobs = s.jobs := by
  have henum : s.chainAfterCut.activity.enumerating = s.chain.activity.enumerating := by
    unfold State.chainAfterCut
    split
    · cases s.chain.activity <;> rfl
    · rfl
  unfold State.jobs
  rw [State.setChain_chain, henum]
  rfl

section
variable (h : JobsReady p s)
include h

theorem JobsReady.cutSweep (hs : s.sweep.state ≠ .none) (v : Verdict) (why : Option Reason) :
    JobsReady p (cutSweep v why s) ∧ (Machine.cutSweep v why s).token = .free := by
  have hcut : JobsReady p (s.setChain s.chainAfterCut) := by
    rw [JobsReady, jobs_chainAfterCut]
    exact h
  rw [cutSweep_chain]
  exact hcut.endSweep hs v why

/-- The token is free once a sweep has made way for a job that the modal check has let through (R173, R199). -/
theorem JobsReady.preempt (ht : ∀ x, s.token ≠ .relearn x) :
    JobsReady p (preempt s) ∧ (Machine.preempt s).token = .free := by
  unfold Machine.preempt
  split
  · rename_i y hy
    exact h.cutSweep (h.sound.sweepIssuer y hy).1 _ _
  · rename_i hfree
    exact ⟨h, hfree⟩
  · rename_i x hx
    exact absurd hx (ht x)

end

/-- The modal check lets no job through while a RELEARN has the token (R199). -/
theorem not_relearn_of_admission {n : ReqName} (hn : n.modal = true) (ha : admission n p s = none) (x : Option Port) :
    s.token ≠ .relearn x := by
  intro ht
  have hrefuses : modalRefuses s p = true := by simp only [modalRefuses, ht]
  unfold admission at ha
  simp only [hn, hrefuses, Bool.and_self, if_true] at ha
  split at ha
  · cases ha
  · split at ha <;> cases ha
  · cases ha

section
variable (h : JobsReady p s)
include h

theorem JobsReady.sweepRequest (ha : admission .sweep p s = none) (x : SweepParams) : JobsSound (doSweep p x s) := by
  unfold doSweep
  refine .ite (h.refuse _ _) ?_
  obtain ⟨hready, hfree⟩ := h.preempt (not_relearn_of_admission rfl ha)
  exact .of_hold hready.notAsked (hready.sound.sweepBegins hready.idle hfree)

theorem JobsReady.relearnRequest (ha : admission .relearn p s = none) (u : Unit) : JobsSound (doRelearn p u s) := by
  obtain ⟨hready, hfree⟩ := h.preempt (not_relearn_of_admission rfl ha)
  have hheld : JobsSound (hold p .relearn ((Machine.preempt s).setToken (.relearn (some p)))) :=
    .of_hold hready.notAsked (hready.sound.relearnBegins hready.idle hfree)
  exact .ite (hheld.sendEnum0 rfl) hheld

/-- The modal job that RESTART-CHAIN cancels frees the token, and the chain controller's restart drops its ENUM (R23, R189). -/
theorem JobsReady.cancelJob :
    Jobs.Ready { (cancelJob s).jobs with enumerating := false } p ∧ (Machine.cancelJob s).token = .free := by
  unfold Machine.cancelJob
  split
  · rename_i hfree
    exact ⟨⟨h.sound.setEnumerating (e := false) nofun, h.idle⟩, hfree⟩
  · rename_i y hy
    obtain ⟨hready, hfree⟩ := h.endSweep (h.sound.sweepIssuer y hy).1 .aborted (some .restart)
    exact ⟨⟨hready.sound.setEnumerating (e := false) nofun, hready.idle⟩, hfree⟩
  · rename_i x hx
    refine ⟨⟨JobsSound.endRelearn h.sound hx _ _ _, ?_⟩, by rw [endRelearn_frame]⟩
    unfold Machine.endRelearn
    cases x with
    | none =>
      simp only [hx]
      exact h.idle
    | some y =>
      simp only [hx]
      exact (congrArg (fun j : Jobs => (j.slots.get p).busy) (jobs_complete y .relearn .aborted (some .restart) .nothing s)).trans
        (idle_free h.idle y)

theorem JobsReady.restartChain (u : Unit) : JobsSound (doRestartChain p u s) := by
  obtain ⟨⟨hsound, hidle⟩, hfree⟩ := h.cancelJob
  have hrestarted : JobsReady p (restartEffects s) :=
    ⟨(hsound.startupRelearnBegins hfree).setEnumerating (e := true) fun _ => ⟨_, rfl⟩, hidle⟩
  exact hrestarted.finish _ _

/-! ## Store requests -/

/-- A store request that its conditions let through holds its port's slot while the store writes (R26, R193). -/
theorem JobsReady.beginWrite {op : WriteOp} {n : ReqName} (hw : ¬s.store.writing = true) (hn : op.request = some n) :
    JobsSound (hold p n (beginWrite op (some p) s)) :=
  .of_hold h.notAsked (h.sound.writeBegins h.idle (idle_of_not_writing s hw) hn)

theorem JobsReady.putAt (hw : ¬s.store.writing = true) (k : Nat) (x : PutBlock) : JobsSound (putAt p k x s) := by
  unfold Machine.putAt
  split
  · exact h.refuse _ _
  · exact h.beginWrite hw rfl

theorem JobsReady.putProfile (x : PutBlock) : JobsSound (doPutProfile p x s) := by
  unfold doPutProfile
  split
  · exact h.refuse _ _
  · rename_i hw
    split
    · split
      · exact h.refuse _ _
      · exact h.putAt hw _ x
    · exact h.putAt hw _ x

theorem JobsReady.dropProfile (k : Nat) : JobsSound (doDropProfile p k s) := by
  unfold doDropProfile
  split
  · exact h.refuse _ _
  · rename_i hw
    exact .ite (h.refuse _ _) (.ite (h.refuse _ _) (h.beginWrite hw rfl))

theorem JobsReady.putMap (x : Pos × Option Slot) : JobsSound (doPutMap p x s) := by
  unfold doPutMap
  split
  · exact h.refuse _ _
  · rename_i hw
    exact .ite (h.refuse _ _) (h.beginWrite hw rfl)

theorem JobsReady.clearMap (u : Unit) : JobsSound (doClearMap p u s) := by
  unfold doClearMap
  split
  · exact h.refuse _ _
  · rename_i hw
    exact h.beginWrite hw rfl

/-! ## Authority -/

omit h in
/-- Authority that passes ends the CLAIM of the standby (R179, R182). -/
theorem jobs_passAuthority {q : Prog} (hq : s.auth.standby = some q) (why : LastChange) : (passAuthority why s).jobs =
    { s.jobs with slots := s.jobs.slots.free (.prog q), holder := some q, standby := none } := by
  have hjobs := jobs_complete (.prog q) .claim .done none (.claim (some q) s.frozen) ((s.setAuth { s.auth with
    holder := some q, standby := none, lastChange := .handover, changes := nextCount s.auth.changes }).restartTimer q)
  simp only [passAuthority, hq]
  cases q <;> exact hjobs

omit h in
/-- Authority that finds no standby becomes VACANT (R179, R182). -/
theorem jobs_passAuthority_vacant (hnone : s.auth.standby = none) (why : LastChange) :
    (passAuthority why s).jobs = { s.jobs with holder := none } := by
  unfold passAuthority
  split
  · rename_i q hq
    exact absurd (hnone.symm.trans hq) nofun
  · rfl

omit h in
theorem JobsSound.passAuthority (h : JobsSound s) (why : LastChange) : JobsSound (passAuthority why s) := by
  cases hs : s.auth.standby with
  | none =>
    rw [JobsSound, jobs_passAuthority_vacant hs]
    exact h.setHolder none hs
  | some q =>
    rw [JobsSound, jobs_passAuthority hs]
    exact h.claimEnds hs

theorem JobsReady.release (u : Unit) : JobsSound (doRelease p u s) := by
  have hidle : ((passAuthority .release s).jobs.slots.get p).busy = none := by
    cases hs : s.auth.standby with
    | none =>
      rw [jobs_passAuthority_vacant hs]
      exact h.idle
    | some q =>
      rw [jobs_passAuthority hs]
      exact idle_free h.idle _
  exact JobsReady.finish ⟨JobsSound.passAuthority h.sound _, hidle⟩ _ _

theorem JobsReady.claim (wait : Bool) : JobsSound (doClaim p wait s) := by
  unfold doClaim
  split
  · rename_i q
    unfold claimBy
    split
    · rename_i hvacant
      have hnone : s.auth.standby = none := by
        cases hs : s.auth.standby with
        | none => rfl
        | some r => exact absurd (hvacant.symm.trans (h.sound.standbyWaits r hs)) nofun
      have hready : JobsReady (.prog q) (s.setAuth { s.auth with
          holder := some q, lastChange := .claim, changes := nextCount s.auth.changes }) :=
        ⟨h.sound.setHolder (some q) hnone, h.idle⟩
      exact hready.finish _ _
    · rename_i r hr
      split
      · exact h.finish _ _
      · rename_i hne
        have hother : s.auth.holder = some (otherProg q) := by
          rw [hr]
          cases r <;> cases q <;> first | rfl | exact absurd rfl hne
        refine .ite ?_ (h.refuse _ _)
        exact .of_hold (s := s.setAuth { s.auth with standby := some q }) h.notAsked (h.sound.claimWaits h.idle hother)
  · exact h.refuse _ _

theorem JobsReady.freeze (k : Key) : JobsSound (doFreeze p k s) := by
  unfold doFreeze
  split
  · exact JobsReady.finish (s := s.setAuth { s.auth with key := some k }) h _ _
  · exact .ite (h.finish _ _) (h.refuse _ _)

theorem JobsReady.thaw (k : Key) : JobsSound (doThaw p k s) := by
  unfold doThaw
  split
  · exact h.finish _ _
  · exact .ite (JobsReady.finish (s := s.setAuth { s.auth with key := none }) h _ _) (h.refuse _ _)

/-- A change of M may end a sweep (R174, R185). -/
theorem JobsReady.setShow (x : ShowBlock) : JobsSound (doSetShow p x s) := by
  have hm : ∀ old u, JobsReady p u → JobsReady p (showM old u) := by
    intro old u hu
    have hreformed : JobsReady p (reformAll u) := hu
    refine .ite hu ?_
    dsimp only
    split
    · rename_i hlive
      exact (hreformed.cutSweep (by simpa [SweepRec.inProgress] using hlive.2) _ _).1
    · exact hreformed
  have hw : ∀ old u, JobsReady p u → JobsReady p (showWant old u) := fun old u hu => .ite hu hu
  have ht : ∀ old u, JobsReady p u → JobsReady p (showTimeout old u) := fun old u hu => .ite hu hu
  exact (ht _ _ (hw _ _ (hm s.showRec (s.setShowRec (showAfter x s.showRec)) h))).finish _ _

/-! ## Settings -/

theorem JobsReady.setBudget (x : BudgetBlock) : JobsSound (doSetBudget p x s) := by
  unfold doSetBudget
  dsimp only
  refine JobsReady.finish (.ite ?_ ?_) _ _ <;> exact h

theorem JobsReady.setTrack (x : TrackBlock) : JobsSound (doSetTrack p x s) :=
  .ite (JobsReady.finish (s := s.putTile _ _) h _ _) (h.refuse _ _)

theorem JobsReady.setTemp (x : TempBlock) : JobsSound (doSetTemp p x s) := by
  unfold doSetTemp
  dsimp only
  refine JobsReady.finish (.ite ?_ ?_) _ _ <;> exact h

theorem JobsReady.clearFaults (target : Option Slot) : JobsSound (doClearFaults p target s) :=
  .ite (h.refuse _ _) (JobsReady.finish (s := settleAll s _) h _ _)

end

/-! ## ABORT -/

section
variable (h : JobsSound s)
include h

theorem JobsSound.askAbort {n : ReqName} (hp : (s.port p).busy = some n) : JobsSound (askAbort p s) := by
  have hbusy : (s.jobs.slots.get p).busy ≠ none := by
    rw [slots_get]
    exact fun hnone => absurd (hp.symm.trans hnone) nofun
  have hasks := h.asks hbusy
  rw [slots_get] at hasks
  rw [JobsSound, Machine.askAbort, jobs_putPort]
  exact hasks

/-- What a BUSY slot's request is run by (R193). -/
theorem JobsSound.runs {n : ReqName} (hp : (s.port p).busy = some n) : s.jobs.Runs p n :=
  (h.busy p n).mp (by rw [slots_get]; exact hp)

theorem JobsSound.abortClaim (hp : (s.port p).busy = some .claim) : JobsSound (abortClaim p s) := by
  rcases h.runs hp with ⟨hn, _⟩ | ⟨hn, _⟩ | ⟨_, q, rfl, hq⟩ | ⟨w, _, _, hn⟩
  · cases hn
  · cases hn
  · have hjobs := jobs_complete (.prog q) .claim .aborted (some .byPort) .nothing (s.setAuth { s.auth with standby := none })
    exact cast (congrArg Jobs.Sound hjobs.symm) (h.claimEnds (x := s.auth.holder) hq)
  · exact absurd rfl (request_ne_job hn).2.2

theorem JobsSound.abortSweep (hp : (s.port p).busy = some .sweep) : JobsSound (abortSweep p s) := by
  refine .ite (h.askAbort hp) ?_
  rcases h.runs hp with ⟨_, ht⟩ | ⟨hn, _⟩ | ⟨hn, _⟩ | ⟨w, _, _, hn⟩
  · exact h.endSweep (h.sweepIssuer p ht).1 _ _
  · cases hn
  · cases hn
  · exact absurd rfl (request_ne_job hn).1

theorem JobsSound.abortRelearn (hp : (s.port p).busy = some .relearn) : JobsSound (abortRelearn p s) := by
  unfold Machine.abortRelearn
  split
  · exact h.askAbort hp
  · rename_i henum
    rcases h.runs hp with ⟨hn, _⟩ | ⟨_, ht⟩ | ⟨hn, _⟩ | ⟨w, _, _, hn⟩
    · cases hn
    · have hended := h.endRelearn ht .aborted (some .byPort) .nothing
      have hstill : (Machine.endRelearn .aborted (some .byPort) .nothing s).jobs.enumerating = false := by
        rw [endRelearn_frame]
        exact Bool.eq_false_of_not_eq_true henum
      rw [← hstill] at hended
      exact hended
    · cases hn
    · exact absurd rfl (request_ne_job hn).2.1

theorem JobsSound.abort (p : Port) : JobsSound (doAbort p s) := by
  unfold doAbort
  split
  · exact h
  · rename_i n hn
    refine .ite h ?_
    unfold abortRequest
    split
    · exact h.abortClaim hn
    · exact h.abortSweep hn
    · exact h.abortRelearn hn
    · exact h.askAbort hn

/-! ## Time -/

theorem JobsSound.expireTimer (q : Prog) : JobsSound (expireTimer q s) := by
  have hexpired : JobsSound (s.setAuth (s.auth.setTimer q .expired)) := by cases q <;> exact h
  exact .ite (hexpired.passAuthority _) hexpired

omit h in
theorem token_of_relearning (hr : s.relearning = true) : ∃ x, s.token = .relearn x := by
  unfold State.relearning at hr
  split at hr
  · exact ⟨_, by assumption⟩
  · cases hr
  · cases hr

theorem JobsSound.chainDue : JobsSound (chainDue s) := by
  unfold Machine.chainDue
  split
  · rename_i hwaits
    rw [Bool.and_eq_true] at hwaits
    obtain ⟨x, hx⟩ := token_of_relearning hwaits.1
    exact h.sendEnum0 hx
  · split
    · rename_i hdue
      simp only [canStartRound, Bool.and_eq_true, beq_iff_eq] at hdue
      exact h.startRound hdue.1.1.2
    · exact h

theorem JobsSound.tick : JobsSound (tick s) := by
  have haged : JobsSound s.aged := h
  have hlive : ∀ q u, JobsSound u → JobsSound (expireDue q u) := fun q u hu => .ite (hu.expireTimer q) hu
  have hretry : ∀ u x, JobsSound u → JobsSound (retryDue u x) := fun u x hu => .ite hu hu
  exact .ite h (((hlive _ _ (hlive _ _ haged)).foldl hretry _).chainDue)

end

end Sys2Proof.Machine
end

section
/-! PROOFS. Every command keeps the jobs sound, and the step lemma (R177, R193, R199). -/

namespace Sys2Proof.Machine

variable {s : State}

/-- An update of a port that leaves its slot. -/
theorem JobsSound.putPort (h : JobsSound s) {p : Port} {x : PortRec} (hx : x.slot = (s.port p).slot) :
    JobsSound (s.putPort p x) := by
  rw [JobsSound, jobs_putPort_same hx]
  exact h

theorem JobsReady.putPort {p : Port} (h : JobsReady p s) {x : PortRec} (hx : x.slot = (s.port p).slot) :
    JobsReady p (s.putPort p x) := by
  rw [JobsReady, jobs_putPort_same hx]
  exact h

theorem JobsSound.transaction (h : JobsSound s) {p : Port} {f : State → State} (hf : ∀ u, JobsSound u → JobsSound (f u)) :
    JobsSound (transaction p f s) := by
  refine .ite h (hf _ ?_)
  rcases p with (_ | _) | _ <;> exact h

/-- A POST keeps the jobs sound where its own effect does, judged at an IDLE slot past the checks of stages 1 to 3 (R193, R194). -/
theorem JobsSound.posted {α : Type} (h : JobsSound s) {n : ReqName} {p : Port} {x : Option α} {f : α → State → State}
    (hf : ∀ v u, JobsReady p u → admission n p u = none → JobsSound (f v u)) : JobsSound (posted n p x f s) := by
  have htouch : JobsSound (touch p s) := by rcases p with (_ | _) | _ <;> exact h
  have hport : (touch p s).port p = s.port p := by rw [touch_eq]; rfl
  have hadmission : admission n p (touch p s) = admission n p s := by rcases p with (_ | _) | _ <;> rfl
  have hready : SlotFree p s → JobsReady p (touch p s) := fun hp =>
    ⟨htouch, by rw [slots_get, hport]; exact hp.2⟩
  refine (?_ : JobsSound (post n p (withBlock n p x f) s))
  rcases post_cases s n p x f with ⟨_, e⟩ | ⟨_, _, e⟩ | ⟨hp, why, _, e⟩ | ⟨hp, _, e⟩ | ⟨hp, v, _, e⟩ <;> rw [e]
  · exact h
  · exact htouch.putPort (by rw [hport]; rfl)
  · exact (hready hp).refuse _ _
  · exact (hready hp.1).refuse _ _
  · exact hf v _ (hready hp.1) (hadmission.trans hp.2)

theorem JobsSound.unknownPost (h : JobsSound s) (p : Port) (code : Byte) : JobsSound (unknownPost p code s) := by
  unfold Machine.unknownPost
  split
  · exact h.putPort rfl
  · rename_i hidle
    have hready : JobsReady p s := ⟨h, by rw [slots_get]; simpa [PortRec.slot] using hidle⟩
    exact hready.refuse _ _

/-- Each transaction of a port. -/
theorem JobsSound.of_transactionCommand (h : JobsSound s) (c : Instr) (hc : transactionOn c ≠ none) :
    ∃ t, exec c s = .next t ∧ JobsSound t := by
  cases c with
  | status p | read p kind i0 i1 | result p => exact ⟨_, rfl, h.transaction fun _ hu => hu.putPort rfl⟩
  | discardedTransaction p => exact ⟨_, rfl, h.transaction fun _ hu => hu⟩
  | abort p => exact ⟨_, rfl, h.transaction fun _ hu => hu.abort p⟩
  | claim p b => exact ⟨_, rfl, h.posted fun v _ hu _ => hu.claim v⟩
  | release p b => exact ⟨_, rfl, h.posted fun v _ hu _ => hu.release v⟩
  | setShow p b => exact ⟨_, rfl, h.posted fun v _ hu _ => hu.setShow v⟩
  | freeze p b => exact ⟨_, rfl, h.posted fun v _ hu _ => hu.freeze v⟩
  | thaw p b => exact ⟨_, rfl, h.posted fun v _ hu _ => hu.thaw v⟩
  | setBudget p b => exact ⟨_, rfl, h.posted fun v _ hu _ => hu.setBudget v⟩
  | putProfile p b => exact ⟨_, rfl, h.posted fun v _ hu _ => hu.putProfile v⟩
  | dropProfile p b => exact ⟨_, rfl, h.posted fun v _ hu _ => hu.dropProfile v⟩
  | putMap p b => exact ⟨_, rfl, h.posted fun v _ hu _ => hu.putMap v⟩
  | clearMap p b => exact ⟨_, rfl, h.posted fun v _ hu _ => hu.clearMap v⟩
  | setTrack p b => exact ⟨_, rfl, h.posted fun v _ hu _ => hu.setTrack v⟩
  | setSlew p b => exact ⟨_, rfl, h.posted fun v u hu _ => JobsReady.finish (s := u.setSlewSet _) hu _ _⟩
  | setTemp p b => exact ⟨_, rfl, h.posted fun v _ hu _ => hu.setTemp v⟩
  | setProtect p b => exact ⟨_, rfl, h.posted fun v u hu _ => JobsReady.finish (s := settleAll u _) hu _ _⟩
  | clearFaults p b => exact ⟨_, rfl, h.posted fun v _ hu _ => hu.clearFaults v⟩
  | sweep p b => exact ⟨_, rfl, h.posted fun v _ hu ha => hu.sweepRequest ha v⟩
  | relearn p b => exact ⟨_, rfl, h.posted fun v _ hu ha => hu.relearnRequest ha v⟩
  | restartChain p b => exact ⟨_, rfl, h.posted fun v _ hu _ => hu.restartChain v⟩
  | setNotice p b =>
    exact ⟨_, rfl, h.posted fun v u hu _ => (hu.putPort (x := { u.port p with mask := v }) rfl).finish _ _⟩
  | unknownRequestPost p code b => exact ⟨_, rfl, .ite h (h.transaction fun _ hu => hu.unknownPost p code)⟩
  | _ => exact absurd rfl hc

/-- An event keeps what its effect keeps. -/
theorem JobsSound.event {f : State → State} (h : JobsSound (f s)) : JobsSound (event f s) := h

/-- Each reply, window expiry, timer, start and store-write completion. -/
theorem JobsSound.of_chainCommand (h : JobsSound s) (c : Instr) (hc : transactionOn c = none)
    (hr : ∀ cause cut, c ≠ .hardReset cause cut) (hn : c ≠ .resetnRelease) : ∃ t, exec c s = .next t ∧ JobsSound t := by
  have henum : ∀ n, s.chain.activity = .enum n → ∃ x, s.token = .relearn x := fun n hn =>
    h.enumHolds (congrArg Activity.enumerating hn)
  cases c with
  | hardReset cause cut => exact absurd rfl (hr cause cut)
  | resetnRelease => exact absurd rfl hn
  | roundStart =>
    refine ⟨_, rfl, ?_⟩
    split
    · rename_i hstart
      simp only [canStartRound, Bool.and_eq_true, beq_iff_eq] at hstart
      exact JobsSound.event (h.startRound hstart.1.2)
    · exact h
  | relearnEnumerationStart =>
    refine ⟨_, rfl, ?_⟩
    split
    · rename_i hwaits
      simp only [Bool.and_eq_true] at hwaits
      obtain ⟨x, hx⟩ := token_of_relearning hwaits.1.1
      exact h.sendEnum0 hx
    · exact h
  | livenessTimerExpiry q => exact ⟨_, rfl, .ite (JobsSound.event (h.expireTimer q)) h⟩
  | retryTimerExpiry i cls => exact ⟨_, rfl, .ite h h⟩
  | pollReply temp fault hours load echo =>
    refine ⟨_, rfl, ?_⟩
    split
    · rename_i i _
      have hreplied : JobsSound (pollReplied i temp fault hours load echo s) := by
        rw [JobsSound, jobs_pollReplied]
        exact h
      exact .ite (JobsSound.event (hreplied.pollFrom _)) h
    · exact h
  | pushReply echo =>
    refine ⟨_, rfl, ?_⟩
    split
    · exact .ite (JobsSound.event (JobsSound.pushFrom (s := pushReplied _ echo s) h _)) h
    · exact h
  | pollMiss =>
    refine ⟨_, rfl, ?_⟩
    split
    · exact JobsSound.event (JobsSound.pollFrom (s := missAt _ s) h _)
    · exact h
  | pushMiss =>
    refine ⟨_, rfl, ?_⟩
    split
    · exact JobsSound.event (JobsSound.pushFrom (s := missAt _ s) h _)
    · exact h
  | adoptReply serial =>
    refine ⟨_, rfl, ?_⟩
    split
    · rename_i i _
      have hreplied : JobsSound (adoptReplied i serial s) := by
        rw [JobsSound, jobs_adoptReplied]
        exact h
      exact JobsSound.event hreplied.probePhase
    · exact h
  | adoptNoReply =>
    refine ⟨_, rfl, ?_⟩
    split
    · exact JobsSound.event h.probePhase
    · exact h
  | enumReply serial =>
    refine ⟨_, rfl, ?_⟩
    split
    · rename_i n hn
      obtain ⟨x, hx⟩ := henum n hn
      exact JobsSound.event (h.enumReplied hx n serial)
    · exact h
  | enumNoReply =>
    refine ⟨_, rfl, ?_⟩
    split
    · rename_i n hn
      obtain ⟨x, hx⟩ := henum n hn
      exact JobsSound.event (h.enumUnanswered hx n)
    · exact h
  | patchReply =>
    refine ⟨_, rfl, ?_⟩
    split
    · rename_i i _ _
      have hanswered : JobsSound (answeredAt i s) := h
      exact JobsSound.event (.ite (hanswered.setActivity rfl) (hanswered.setActivity rfl))
    · exact JobsSound.event (JobsSound.endProbeStep (s := answeredAt _ s) h _ _ _)
    · exact h
  | patchMiss =>
    refine ⟨_, rfl, ?_⟩
    split
    · exact JobsSound.event (JobsSound.setActivity (s := missAt _ s) h rfl)
    · exact JobsSound.event (JobsSound.endProbeStep (s := missAt _ s) h _ _ _)
    · exact h
  | settleWaitEnd =>
    refine ⟨_, rfl, ?_⟩
    split
    · exact .ite (h.setActivity rfl) (h.setActivity rfl)
    · exact h
  | senseReply status count =>
    refine ⟨_, rfl, ?_⟩
    split
    · exact .ite (JobsSound.event (JobsSound.senseReplied (s := answeredAt _ s) h _ _ _ _)) h
    · exact h
  | senseMiss =>
    refine ⟨_, rfl, ?_⟩
    split
    · exact JobsSound.event (JobsSound.setActivity (s := missAt _ s) h rfl)
    · exact h
  | storeWriteComplete =>
    refine ⟨_, rfl, ?_⟩
    split
    · rename_i w hw
      exact JobsSound.event (h.completeWrite hw)
    · exact h
  | _ => simp [transactionOn] at hc

/-! ## Resets -/

theorem jobsSound_endReset (hs : JobsAsleep s) : JobsSound (endReset s) := by
  obtain ⟨hwrite, hstandby, hsweep, _⟩ := hs
  have hrest : Jobs.Sound { (endReset s).jobs with token := .free, enumerating := false } :=
    Jobs.sound_of_rest rfl (fun p => by rcases p with (_ | _) | _ <;> rfl) rfl hstandby hwrite hsweep rfl
  exact (hrest.startupRelearnBegins rfl).setEnumerating (e := true) fun _ => ⟨_, rfl⟩

theorem jobsAsleep_underReset (cut : List CutOutcome) (s : State) : JobsAsleep (underReset cut s) := ⟨rfl, rfl, rfl, rfl⟩

theorem jobsInv_underReset (cut : List CutOutcome) (s : State) : JobsInv (underReset cut s) :=
  (jobsInv_iff _).mpr ⟨Jobs.sound_of_rest rfl (fun p => by rcases p with (_ | _) | _ <;> rfl) rfl rfl rfl rfl rfl,
    fun _ => jobsAsleep_underReset cut s⟩

/-- The invariant is about the jobs and the frame in flight. -/
theorem JobsInv.of_jobs {t : State} (h : JobsInv s) (hjobs : t.jobs = s.jobs) (ha : t.chain.activity = s.chain.activity) :
    JobsInv t := by
  obtain ⟨hsound, hsleep⟩ := (jobsInv_iff s).mp h
  have hreset : t.inReset = s.inReset := congrArg Jobs.inReset hjobs
  have hwrite : t.store.write = s.store.write := congrArg Jobs.write hjobs
  have hstandby : t.auth.standby = s.auth.standby := congrArg Jobs.standby hjobs
  have hsweep : t.sweep.state = s.sweep.state := congrArg Jobs.sweep hjobs
  refine (jobsInv_iff t).mpr ⟨by rw [hjobs]; exact hsound, ?_⟩
  unfold JobsAsleep
  rw [hreset, hwrite, hstandby, hsweep, ha]
  exact hsleep

/-- Authority that finds no standby becomes VACANT and moves no job. -/
theorem JobsInv.passAuthority_vacant (h : JobsInv s) (hnone : s.auth.standby = none) (why : LastChange) :
    JobsInv (passAuthority why s) := by
  obtain ⟨hsound, hsleep⟩ := (jobsInv_iff s).mp h
  have hjobs := jobs_passAuthority_vacant hnone why
  have hstandby : (passAuthority why s).auth.standby = s.auth.standby := congrArg Jobs.standby hjobs
  refine (jobsInv_iff _).mpr ⟨by rw [hjobs]; exact hsound.setHolder none hnone, ?_⟩
  unfold JobsAsleep
  rw [hstandby, passAuthority_frame]
  exact hsleep

/-- RESETn is high where the jobs are sound, and the invariant is theirs. -/
theorem JobsSound.inv (h : JobsSound s) : JobsInv s := by
  have hr : s.inReset = false := h.up
  have hjobs : { s.jobs with inReset := false } = s.jobs := by
    rw [← hr]
    rfl
  exact (jobsInv_iff s).mpr ⟨by rw [hjobs]; exact h, fun hlow => absurd (hr.symm.trans hlow) nofun⟩

theorem jobsInv_hardReset (cause : ResetCause) (cut : List CutOutcome) (s : State) :
    ∃ t, exec (.hardReset cause cut) s = .next t ∧ JobsInv t := by
  cases cause with
  | powerUp => exact ⟨_, rfl, (jobsSound_endReset (jobsAsleep_underReset cut s)).inv⟩
  | resetnLow => exact ⟨_, rfl, jobsInv_underReset cut s⟩

theorem JobsSound.of_inv (h : JobsInv s) (hr : s.inReset = false) : JobsSound s := by
  have hsound := ((jobsInv_iff s).mp h).1
  rw [← hr] at hsound
  exact hsound

/-! ## While RESETn is low -/

section
variable (hr : s.inReset = true)
include hr

theorem transaction_inReset (p : Port) (f : State → State) : transaction p f s = s := if_pos hr

theorem posted_inReset {α : Type} (n : ReqName) (p : Port) (x : Option α) (f : α → State → State) : posted n p x f s = s := by
  have hpost : post n p (withBlock n p x f) s = s := transaction_inReset hr p _
  exact (event_of_sameTiles s _ (by rw [hpost]) (by rw [hpost])).trans hpost

/-- No transaction is taken (R191). -/
theorem transaction_ignored (c : Instr) (hc : transactionOn c ≠ none) : exec c s = .next s := by
  cases c with
  | status p | read p kind i0 i1 | result p | abort p | discardedTransaction p =>
    exact congrArg Host.Outcome.next (transaction_inReset hr p _)
  | unknownRequestPost p code b =>
    refine congrArg Host.Outcome.next ?_
    split
    · rfl
    · exact transaction_inReset hr p _
  | claim p b | release p b | setShow p b | freeze p b | thaw p b | setBudget p b | putProfile p b | dropProfile p b
  | putMap p b | clearMap p b | setTrack p b | setSlew p b | setTemp p b | setProtect p b | clearFaults p b | sweep p b
  | relearn p b | restartChain p b | setNotice p b => exact congrArg Host.Outcome.next (posted_inReset hr _ p _ _)
  | _ => exact absurd rfl hc

/-- Of the events only the expiries of timers can move anything, and no CLAIM waits for authority then. -/
theorem jobsInv_of_chainCommand_inReset (h : JobsInv s) (c : Instr) (hc : transactionOn c = none) :
    ∃ t, exec c s = .next t ∧ JobsInv t := by
  obtain ⟨hsound, hsleep⟩ := (jobsInv_iff s).mp h
  obtain ⟨hwrite, hstandby, hsweep, hidle⟩ := hsleep hr
  cases c with
  | hardReset cause cut => exact jobsInv_hardReset cause cut s
  | resetnRelease =>
    refine ⟨_, rfl, ?_⟩
    rw [if_pos hr]
    exact (jobsSound_endReset (hsleep hr)).inv
  | livenessTimerExpiry q =>
    refine ⟨_, rfl, ?_⟩
    split
    · have hexpired : JobsInv (s.setAuth (s.auth.setTimer q .expired)) := h.of_jobs (by cases q <;> rfl) rfl
      have hnone : (s.auth.setTimer q .expired).standby = none := by cases q <;> exact hstandby
      have htimer : JobsInv (expireTimer q s) := by
        unfold expireTimer
        dsimp only
        split
        · exact hexpired.passAuthority_vacant hnone _
        · exact hexpired
      exact htimer.of_jobs rfl rfl
    · exact h
  | retryTimerExpiry i cls =>
    refine ⟨_, rfl, ?_⟩
    split
    · exact h.of_jobs rfl rfl
    · exact h
  | roundStart => exact ⟨s, by simp [exec, execRoundStart, canStartRound, hr], h⟩
  | relearnEnumerationStart => exact ⟨s, by simp [exec, execRelearnEnumerationStart, hr], h⟩
  | storeWriteComplete => exact ⟨s, by simp only [exec, execStoreWriteComplete, hwrite], h⟩
  | pollReply temp fault hours load echo => exact ⟨s, by simp only [exec, execPollReply, hidle], h⟩
  | pollMiss => exact ⟨s, by simp only [exec, execPollMiss, hidle], h⟩
  | pushReply echo => exact ⟨s, by simp only [exec, execPushReply, hidle], h⟩
  | pushMiss => exact ⟨s, by simp only [exec, execPushMiss, hidle], h⟩
  | adoptReply serial => exact ⟨s, by simp only [exec, execAdoptReply, hidle], h⟩
  | adoptNoReply => exact ⟨s, by simp only [exec, execAdoptNoReply, hidle], h⟩
  | enumReply serial => exact ⟨s, by simp only [exec, execEnumReply, hidle], h⟩
  | enumNoReply => exact ⟨s, by simp only [exec, execEnumNoReply, hidle], h⟩
  | patchReply => exact ⟨s, by simp only [exec, execPatchReply, hidle], h⟩
  | patchMiss => exact ⟨s, by simp only [exec, execPatchMiss, hidle], h⟩
  | settleWaitEnd => exact ⟨s, by simp only [exec, execSettleWaitEnd, hidle], h⟩
  | senseReply status count => exact ⟨s, by simp only [exec, execSenseReply, hidle], h⟩
  | senseMiss => exact ⟨s, by simp only [exec, execSenseMiss, hidle], h⟩
  | _ => simp [transactionOn] at hc

end

/-! ## Every command -/

theorem exec_jobsInv (h : JobsInv s) (c : Instr) : ∃ t, exec c s = .next t ∧ JobsInv t := by
  cases hr : s.inReset with
  | true =>
    by_cases hc : transactionOn c = none
    · exact jobsInv_of_chainCommand_inReset hr h c hc
    · exact ⟨s, transaction_ignored hr c hc, h⟩
  | false =>
    have hsound := JobsSound.of_inv h hr
    by_cases hc : transactionOn c = none
    · cases c with
      | hardReset cause cut => exact jobsInv_hardReset cause cut s
      | resetnRelease =>
        refine ⟨_, rfl, ?_⟩
        rw [hr]
        exact h
      | _ =>
        obtain ⟨t, ht, hts⟩ := hsound.of_chainCommand _ hc nofun nofun
        exact ⟨t, ht, hts.inv⟩
    · obtain ⟨t, ht, hts⟩ := hsound.of_transactionCommand c hc
      exact ⟨t, ht, hts.inv⟩

end Sys2Proof.Machine

open Sys2Proof Sys2Proof.Machine

/-- Settles O58: every command and every millisecond keeps the jobs sound while RESETn is high, and nothing but a reset moves a job
while it is low. -/
theorem stepKeepsTheJobs : Obligations.StepKeepsTheJobs := by
  intro s t h hstep
  unfold step at hstep
  split at hstep
  · rename_i c rest _
    obtain ⟨u, hu, hinv⟩ := exec_jobsInv (h.of_jobs rfl rfl : JobsInv (s.setPending rest)) c
    rw [hu] at hstep
    cases hstep
    exact hinv
  · cases hstep
    cases hr : s.inReset with
    | true =>
      rw [tick, if_pos hr]
      exact h
    | false => exact (JobsSound.of_inv h hr).tick.inv

end

section
/-! PROOFS. The authority requests and the liveness timers' expiry: CLAIM, RELEASE, FREEZE and THAW, each by the rows of its table
(R178 to R183, R186, R187). -/

namespace Sys2Proof.Machine

/-! ## Posts that complete at once -/

section
variable {α : Type} {n : ReqName} {p : Port} {x : Option α} {f : α → State → State} {s : State}

/-- A POST that is refused completes at its port, and moves nothing else but its port's timer (R194). -/
theorem posted_of_refuse {why : Reason} (h : post n p (withBlock n p x f) s = refuse p n why (touch p s)) :
    PortsAfter p ⟨n, .refused, some why, .nothing⟩ {} s (posted n p x f s)
      ∧ posted n p x f s = { s with ports := (posted n p x f s).ports, auth := trafficAuth p s } := by
  rw [posted, event_refuse s p n why _ h]
  exact ⟨(complete_spec (s.setAuth (trafficAuth p s)) p n .refused (some why) .nothing).1, rfl⟩

/-- A POST that fails one of the first three checks. -/
theorem posted_denied {why : Reason} (hp : SlotFree p s) (ha : admission n p s = some why) :
    PortsAfter p ⟨n, .refused, some why, .nothing⟩ {} s (posted n p x f s)
      ∧ posted n p x f s = { s with ports := (posted n p x f s).ports, auth := trafficAuth p s } := by
  refine posted_of_refuse ?_
  rcases post_cases s n p x f with ⟨hr, _⟩ | ⟨_, hb, _⟩ | ⟨_, why', hw, h⟩ | ⟨⟨_, hw⟩, _⟩ | ⟨⟨_, hw⟩, _⟩
  · exact absurd (hp.1.symm.trans hr) nofun
  · rw [hp.2] at hb
    cases hb
  · rw [h, Option.some.inj (ha.symm.trans hw)]
  · exact absurd (ha.symm.trans hw) nofun
  · exact absurd (ha.symm.trans hw) nofun

/-- A POST whose block its reader refuses. -/
theorem posted_unread (hacc : Accepts n p s) (hx : x = none) :
    PortsAfter p ⟨n, .refused, some .range, .nothing⟩ {} s (posted n p x f s)
      ∧ posted n p x f s = { s with ports := (posted n p x f s).ports, auth := trafficAuth p s } := by
  refine posted_of_refuse ?_
  rcases post_cases s n p x f with ⟨hr, _⟩ | ⟨_, hb, _⟩ | ⟨_, why, hw, _⟩ | ⟨_, _, h⟩ | ⟨_, v, hv, _⟩
  · exact absurd (hacc.1.1.symm.trans hr) nofun
  · rw [hacc.1.2] at hb
    cases hb
  · exact absurd (hacc.2.symm.trans hw) nofun
  · exact h
  · exact absurd (hx.symm.trans hv) nofun

/-- An accepted POST that moves the authority unit to `a` alone, and completes with the classes `ns` told to every port. -/
theorem posted_completes {v : α} {d : ResultData} {a : Authority} {ns : Notices} (hacc : Accepts n p s) (hx : x = some v)
    (hf : f v (s.setAuth (trafficAuth p s)) = (finish p n d (s.setAuth a)).noticeAll ns) :
    PortsAfter p ⟨n, .done, none, d⟩ ns s (posted n p x f s)
      ∧ posted n p x f s = { s with ports := (posted n p x f s).ports, auth := a } := by
  have hposted : posted n p x f s = (finish p n d (s.setAuth a)).noticeAll ns := by
    rw [posted_accepted s hacc hx, hf]
    exact notify_of_sameTiles rfl rfl
  rw [hposted]
  exact ⟨complete_noticeAll_spec (s.setAuth a) p n .done none d ns, rfl⟩

end

/-- A request that a port has the right to post, frozen or not, and that is no modal job, passes the first three checks (R194, R195). -/
theorem admission_of_yes {n : ReqName} {p : Port} {s : State} (hright : right n (standing s p) = .yes) (hmodal : n.modal = false) :
    admission n p s = none := by
  unfold admission
  rw [hright, hmodal]
  rfl

/-! ## The authority unit after traffic -/

theorem standing_holder {q : Prog} {s : State} (h : s.auth.holder = some q) : standing s (.prog q) = .holder := if_pos h

theorem standing_nonHolder {q : Prog} {s : State} (h : s.auth.holder ≠ some q) : standing s (.prog q) = .nonHolder := if_neg h

theorem trafficAuth_standing (p : Port) (s : State) : (trafficAuth p s).holder = s.auth.holder
    ∧ (trafficAuth p s).standby = s.auth.standby ∧ (trafficAuth p s).key = s.auth.key
    ∧ (trafficAuth p s).changes = s.auth.changes := by
  rcases p with (_ | _) | _ <;> exact ⟨rfl, rfl, rfl, rfl⟩

/-! ## FREEZE and THAW -/

/-- The key that a block of four bytes carries (R186, R187). -/
theorem readKey_some {block : List Byte} {k : Key} (hlen : block.length = 4) (hk : k.toNat = u32At block 0) (h0 : k ≠ 0) :
    readKey block = some k := by
  have hne : u32At block 0 ≠ 0 := fun h => h0 (BitVec.eq_of_toNat_eq (hk.trans h))
  unfold readKey
  rw [if_pos ⟨hlen, hne⟩, ← hk, BitVec.ofNat_toNat, BitVec.setWidth_eq]

theorem readKey_zero {block : List Byte} {k : Key} (hk : k.toNat = u32At block 0) (h0 : k = 0) : readKey block = none := by
  refine if_neg fun h => h.2 ?_
  rw [← hk, h0]
  rfl

section
variable {p : Port} {k : Key} {s : State}

theorem doFreeze_unfrozen (h : s.auth.key = none) :
    doFreeze p k s = (finish p .freeze (.frozen true) (s.setAuth { s.auth with key := some k })).noticeAll { auth := true } := by
  simp only [doFreeze, h]

theorem doFreeze_frozen {held : Key} (h : s.auth.key = some held) :
    doFreeze p k s = if k = held then finish p .freeze (.frozen true) s else refuse p .freeze .badKey s := by
  simp only [doFreeze, h]

theorem doThaw_unfrozen (h : s.auth.key = none) : doThaw p k s = finish p .thaw (.frozen false) s := by
  simp only [doThaw, h]

theorem doThaw_frozen {held : Key} (h : s.auth.key = some held) : doThaw p k s = if k = held
    then (finish p .thaw (.frozen false) (s.setAuth { s.auth with key := none })).noticeAll { auth := true }
    else refuse p .thaw .badKey s := by
  simp only [doThaw, h]

end

end Sys2Proof.Machine

open Sys2Proof Sys2Proof.Machine

/-- Settles O22: a key of 0 at the reader, and another key by whether the show is frozen, and under which key. -/
theorem freezeTakesTheKey : Obligations.FreezeTakesTheKey := by
  intro p block k s hacc hlen hk
  obtain ⟨_, _, hkey, _⟩ := trafficAuth_standing p s
  refine ⟨fun h0 => ⟨_, rfl, posted_unread hacc (readKey_zero hk h0)⟩, fun h0 hnone => ?unfrozen, fun h0 hsame => ?same,
    fun held h0 hheld hne => ?other⟩
  case unfrozen =>
    exact ⟨_, rfl, posted_completes hacc (readKey_some hlen hk h0) (doFreeze_unfrozen (hkey.trans hnone))⟩
  case same =>
    refine ⟨_, rfl, posted_completes hacc (readKey_some hlen hk h0) ?_⟩
    rw [doFreeze_frozen (hkey.trans hsame), if_pos rfl, State.noticeAll_none]
  case other =>
    refine ⟨_, rfl, posted_refused hacc (readKey_some hlen hk h0) ?_⟩
    rw [doFreeze_frozen (hkey.trans hheld), if_neg (Ne.symm hne)]

/-- Settles O23: the right to THAW first, and then its key by whether the show is frozen, and under which key. -/
theorem thawLiftsTheFreezeWithItsKey : Obligations.ThawLiftsTheFreezeWithItsKey := by
  intro p block k s hfree hlen hk
  obtain ⟨_, _, hkey, _⟩ := trafficAuth_standing p s
  refine ⟨fun hp => ⟨_, rfl, posted_denied hfree ?denied⟩, fun q hp hq => ?holder⟩
  case denied =>
    rcases hp with rfl | ⟨q, rfl, hq⟩
    · rfl
    · unfold admission
      rw [standing_nonHolder hq]
      rfl
  case holder =>
    have hacc : Accepts .thaw p s := ⟨hfree, by
      rw [hp]
      exact admission_of_yes (by rw [standing_holder hq]; rfl) rfl⟩
    refine ⟨fun h0 => ⟨_, rfl, posted_unread hacc (readKey_zero hk h0)⟩, fun h0 hsame => ?same, fun held h0 hheld hne => ?other,
      fun h0 hnone => ?unfrozen⟩
    case same =>
      refine ⟨_, rfl, posted_completes hacc (readKey_some hlen hk h0) ?_⟩
      rw [doThaw_frozen (hkey.trans hsame), if_pos rfl]
      rfl
    case other =>
      refine ⟨_, rfl, posted_refused hacc (readKey_some hlen hk h0) ?_⟩
      rw [doThaw_frozen (hkey.trans hheld), if_neg (Ne.symm hne)]
    case unfrozen =>
      refine ⟨_, rfl, posted_completes hacc (readKey_some hlen hk h0) ?_⟩
      rw [doThaw_unfrozen (hkey.trans hnone), State.noticeAll_none]

end

section
/-! PROOFS. Show authority taken, waited for, given up and lapsed: CLAIM, RELEASE and the expiry of a liveness timer (R178 to R183). -/

namespace Sys2Proof.Machine

theorem ne_otherProg (q : Prog) : otherProg q ≠ q := by cases q <;> decide

/-! ## CLAIM -/

section
variable {q : Prog} {wait : Bool} {s : State}

theorem claimBy_vacant (h : s.auth.holder = none) : claimBy q wait s =
    (finish (.prog q) .claim (.claim (some q) s.frozen)
      (s.setAuth { s.auth with holder := some q, lastChange := .claim, changes := nextCount s.auth.changes })).noticeAll
        { auth := true } := by
  simp only [claimBy, h]
  rfl

theorem claimBy_holder (h : s.auth.holder = some q) :
    claimBy q wait s = finish (.prog q) .claim (.claim (some q) s.frozen) s := by
  simp only [claimBy, claimResult, h, if_true]

/-- While the other port holds authority a CLAIM waits or is refused HELD (R180). -/
theorem claimBy_held (h : s.auth.holder = some (otherProg q)) : claimBy q wait s =
    if wait then (hold (.prog q) .claim (s.setAuth { s.auth with standby := some q })).noticeAll { auth := true }
    else refuse (.prog q) .claim .held s := by
  simp only [claimBy, h, if_neg (ne_otherProg q)]

/-- Every programme port has the right to CLAIM (R195). -/
theorem accepts_claim (h : SlotFree (.prog q) s) : Accepts .claim (.prog q) s := by
  refine ⟨h, admission_of_yes ?_ rfl⟩
  by_cases hq : s.auth.holder = some q
  · rw [standing_holder hq]
    rfl
  · rw [standing_nonHolder hq]
    rfl

end

/-- The wait byte of a CLAIM (R180). -/
theorem readClaim_wait (b : Byte) : (b.toNat = 0 → readClaim [b] = some false) ∧ (b.toNat = 1 → readClaim [b] = some true) := by
  have hread : readClaim [b] = yesNoOf b.toNat := rfl
  rw [hread]
  exact ⟨fun h => by rw [h]; rfl, fun h => by rw [h]; rfl⟩

/-! ## Authority that passes -/

theorem port_finish_same (p : Port) (n : ReqName) (d : ResultData) (s : State) :
    (finish p n d s).port p = (s.port p).complete n .done none d := State.port_putPort_same _ _ _

theorem port_finish_other {p q : Port} (n : ReqName) (d : ResultData) (h : q ≠ p) {s : State} :
    (finish p n d s).port q = s.port q := State.port_putPort_other _ _ _ _ h

/-- After a RELEASE the request completes beside what the passing of authority has told (R182). -/
theorem exec_release {q : Prog} {s : State} (hp : SlotFree (.prog q) s) (hq : s.auth.holder = some q) :
    exec (.release (.prog q) []) s = .next (doRelease (.prog q) () (s.setAuth (trafficAuth (.prog q) s))) := by
  have hacc : Accepts .release (.prog q) s := ⟨hp, admission_of_yes (by rw [standing_holder hq]; rfl) rfl⟩
  refine congrArg Host.Outcome.next ((posted_accepted s hacc (v := ()) rfl).trans (notify_of_sameTiles ?_ ?_)) <;>
    (rw [doRelease, passAuthority_frame]; rfl)

/-- A liveness timer that is RUNNING runs out (R178). -/
theorem exec_livenessTimerExpiry {q : Prog} {n : Nat} {s : State} (h : s.auth.timer q = .running n) :
    exec (.livenessTimerExpiry q) s = .next (expireTimer q s) := by
  have hrunning : (s.auth.timer q).isRunning = true := by rw [h]; rfl
  have hquiet : event (expireTimer q) s = expireTimer q s := by
    refine event_of_sameTiles s _ ?_ ?_ <;> (unfold expireTimer; dsimp only; split)
    · rw [passAuthority_frame]
      rfl
    · rfl
    · rw [passAuthority_frame]
      rfl
    · rfl
  refine congrArg Host.Outcome.next ?_
  rw [if_pos hrunning, hquiet]

end Sys2Proof.Machine

open Sys2Proof Sys2Proof.Machine

/-- Settles O17, row by row of R180. -/
theorem claimIsAnsweredFromTheAuthorityState : Obligations.ClaimIsAnsweredFromTheAuthorityState := by
  intro q b s hfree hb
  obtain ⟨hholder, _, hkey, hchanges⟩ := trafficAuth_standing (.prog q) s
  obtain ⟨hrefuse, hwait⟩ := readClaim_wait b
  have hacc := accepts_claim hfree
  obtain ⟨w, hw⟩ : ∃ w, readClaim [b] = some w := by
    have : b.toNat = 0 ∨ b.toNat = 1 := by omega
    exact this.elim (fun h => ⟨_, hrefuse h⟩) fun h => ⟨_, hwait h⟩
  have hfrozen : (s.setAuth (trafficAuth (.prog q) s)).frozen = s.auth.key.isSome := congrArg Option.isSome hkey
  refine ⟨fun hvacant => ?vacant, fun hown => ?own, fun hother h0 => ?refused, fun hother h1 => ?waits⟩
  case vacant =>
    refine ⟨_, rfl, posted_completes hacc hw ?_⟩
    refine (claimBy_vacant (hholder.trans hvacant)).trans ?_
    rw [hfrozen, ← hchanges]
    rfl
  case own =>
    refine ⟨_, rfl, posted_completes hacc hw ?_⟩
    refine (claimBy_holder (hholder.trans hown)).trans ?_
    rw [hfrozen, State.noticeAll_none]
  case refused =>
    exact ⟨_, rfl, posted_refused hacc (hrefuse h0) (claimBy_held (wait := false) (hholder.trans hother))⟩
  case waits =>
    have hposted : posted .claim (.prog q) (readClaim [b]) (doClaim (.prog q)) s =
        (hold (.prog q) .claim (s.setAuth { trafficAuth (.prog q) s with standby := some q })).noticeAll { auth := true } := by
      refine (posted_accepted s hacc (hwait h1)).trans ?_
      rw [doClaim, claimBy_held (wait := true) (hholder.trans hother)]
      exact notify_of_sameTiles rfl rfl
    refine ⟨_, congrArg Host.Outcome.next hposted, ?_, fun p hp => ?_, rfl⟩
    · rw [State.port_noticeAll, hold, State.port_putPort_same]
      rfl
    · rw [State.port_noticeAll, port_hold_other _ _ _ _ hp, State.port_setAuth]

/-- Settles O18, by whether a standby waits for the authority that leaves its port. -/
theorem releasePassesOrVacatesAuthority : Obligations.ReleasePassesOrVacatesAuthority := by
  intro q s hfree hq
  obtain ⟨_, hstandby, hkey, hchanges⟩ := trafficAuth_standing (.prog q) s
  have hexec := exec_release hfree hq
  obtain ⟨hpasses, hvacates⟩ := passAuthority_spec (s.setAuth (trafficAuth (.prog q) s)) .release
  have hframe := passAuthority_frame (s.setAuth (trafficAuth (.prog q) s)) .release
  rw [hexec, doRelease]
  generalize passAuthority .release (s.setAuth (trafficAuth (.prog q) s)) = v at hpasses hvacates hframe
  have hwhole : ∀ d, finish (.prog q) .release d v = { s with
      ports := (finish (.prog q) .release d v).ports, auth := v.auth } :=
    fun d => congrArg (fun w : State => { w with ports := (finish (.prog q) .release d v).ports }) hframe
  refine ⟨fun hnone => ?vacant, fun hwaits => ?passed⟩
  case vacant =>
    obtain ⟨hports, hauth⟩ := hvacates (hstandby.trans hnone)
    have hholder : v.auth.holder = none := by rw [hauth]
    refine ⟨_, rfl, ⟨?_, fun p hp => ?_⟩, ?_⟩
    · rw [hholder, port_finish_same, hports]
      rfl
    · rw [port_finish_other _ _ hp, hports]
      rfl
    · refine (hwhole _).trans ?_
      rw [hauth, ← hchanges]
      rfl
  case passed =>
    obtain ⟨⟨hclaim, hports⟩, hauth⟩ := hpasses _ (hstandby.trans hwaits)
    have hholder : v.auth.holder = some (otherProg q) := by rw [hauth]
    have hne : Port.prog (otherProg q) ≠ .prog q := fun h => ne_otherProg q (Port.prog.inj h)
    have hsq : Port.service ≠ .prog q := nofun
    have hown := hports (.prog q) (Ne.symm hne)
    have hservice := hports .service nofun
    refine ⟨_, rfl, ?_, ?_, ?_, ?_, ?_, ?_, ?_, ?_, ?_, hwhole _⟩
    · rw [port_finish_same, hholder]
      rfl
    · rw [port_finish_other _ _ hne, hclaim, ← hkey]
      rfl
    · rw [port_finish_other _ _ hne, hclaim]
    · rw [port_finish_same]
      rfl
    · rw [port_finish_other _ _ hsq, hservice]
      rfl
    · intro p
      by_cases hp : p = .prog q
      · rw [hp, port_finish_same, hown]
        simp [PortRec.complete, PortRec.notice, Notices.union]
      · rw [port_finish_other _ _ hp]
        by_cases ho : p = .prog (otherProg q)
        · rw [ho, hclaim]
          simp [Notices.union]
        · rw [hports p ho]
          simp [PortRec.notice, Notices.union]
    · change v.auth.timer (otherProg q) = _
      rw [hauth]
      cases q <;> rfl
    · change v.auth.timer q = _
      rw [hauth]
      cases q <;> rfl
    · change v.auth = { s.auth with
        holder := some (otherProg q), standby := none, lastChange := .handover, changes := (s.auth.changes + 1) % 65536
        timerA := v.auth.timerA, timerB := v.auth.timerB }
      rw [hauth]
      cases q <;> rfl

/-- Settles O19: the expiry at a port that holds no authority, and the lapse without and with a standby. -/
theorem livenessExpiryIsALapseOfTheHolder : Obligations.LivenessExpiryIsALapseOfTheHolder := by
  intro q n s htimer
  have hexec := exec_livenessTimerExpiry htimer
  obtain ⟨hpasses, hvacates⟩ := passAuthority_spec (s.setAuth (s.auth.setTimer q .expired)) .lapse
  have hframe := passAuthority_frame (s.setAuth (s.auth.setTimer q .expired)) .lapse
  have hholder : (s.auth.setTimer q .expired).holder = s.auth.holder := by cases q <;> rfl
  have hstandby : (s.auth.setTimer q .expired).standby = s.auth.standby := by cases q <;> rfl
  have hkey : (s.auth.setTimer q .expired).key = s.auth.key := by cases q <;> rfl
  have hchanges : (s.auth.setTimer q .expired).changes = s.auth.changes := by cases q <;> rfl
  have hlapse : s.auth.holder = some q → expireTimer q s = passAuthority .lapse (s.setAuth (s.auth.setTimer q .expired)) :=
    fun hq => if_pos (hholder.trans hq)
  refine ⟨fun hne => ?_, fun hq hnone => ?_, fun hq hwaits => ?_⟩
  · rw [hexec]
    exact congrArg Host.Outcome.next (if_neg fun h => hne (hholder.symm.trans h))
  · rw [hexec, hlapse hq]
    obtain ⟨hports, hauth⟩ := hvacates (hstandby.trans hnone)
    refine ⟨_, rfl, hports, hframe.trans ?_⟩
    rw [hauth, ← hchanges]
    rfl
  · rw [hexec, hlapse hq]
    obtain ⟨⟨hclaim, hports⟩, hauth⟩ := hpasses _ (hstandby.trans hwaits)
    refine ⟨_, rfl, ⟨?_, hports⟩, hframe.trans ?_⟩
    · rw [hclaim, ← hkey]
      rfl
    · rw [hauth, ← hchanges]
      rfl

end

section
/-! PROOFS. The effect of a SET-SHOW, step by step: the wall record with a new Want, the timers under a new timeout, and the
re-formation and the end of a sweep that a new M brings (R93, R174, R178, R184, R185). -/

namespace Sys2Proof.Machine

/-- The wall record under a new show record: a change of Want re-derives Target from the held s (R93). -/
def WallRec.shown (old new : ShowRec) (w : WallRec) : WallRec :=
  if new.want = old.want then w else { w with target := new.want.map fun x => targetOf x w.s }

/-- The authority unit under a new show record: a change of the timeout restarts every RUNNING timer (R178). -/
def Authority.shown (old new : ShowRec) (a : Authority) : Authority :=
  if new.timeout = old.timeout then a
  else { a with timerA := a.timerA.restarted new.timeoutMs, timerB := a.timerB.restarted new.timeoutMs }

theorem showWant_eq (old : ShowRec) (s : State) : showWant old s = s.setWall (s.wall.shown old s.showRec) := by
  unfold showWant WallRec.shown
  split <;> rfl

theorem showTimeout_eq (old : ShowRec) (s : State) : showTimeout old s = s.setAuth (s.auth.shown old s.showRec) := by
  unfold showTimeout Authority.shown
  split <;> rfl

/-- A timer under a new show record (R178). -/
theorem timer_shown (old new : ShowRec) (a : Authority) (q : Prog) : (a.shown old new).timer q =
    if new.timeout = old.timeout then a.timer q else (a.timer q).restarted new.timeoutMs := by
  unfold Authority.shown
  split
  · rfl
  · cases q <;> rfl

/-- Only timers move. -/
theorem shown_frame (old new : ShowRec) (a : Authority) :
    a.shown old new = { a with timerA := (a.shown old new).timerA, timerB := (a.shown old new).timerB } := by
  unfold Authority.shown
  split <;> rfl

/-- A change of M moves tiles, and where it ends a sweep the ports, the token, the sweep record and the chain controller (R174, R185). -/
theorem showM_frame (old : ShowRec) (s : State) : showM old s = { s with
    tiles := (showM old s).tiles, ports := (showM old s).ports, token := (showM old s).token, sweep := (showM old s).sweep
    chain := (showM old s).chain } := by
  unfold showM
  split
  · rfl
  · dsimp only
    split
    · rw [cutSweep_chain, endSweep_frame]
      rfl
    · rfl

/-- A SET-SHOW holds its show record, then M, Want and the timeout have their effects, and the request completes (R184). -/
theorem doSetShow_eq (p : Port) (x : ShowBlock) (s : State) : doSetShow p x s =
    finish p .setShow (.shown (showAfter x s.showRec))
      (((showM s.showRec (s.setShowRec (showAfter x s.showRec))).setWall
        (s.wall.shown s.showRec (showAfter x s.showRec))).setAuth (s.auth.shown s.showRec (showAfter x s.showRec))) := by
  unfold doSetShow
  dsimp only
  rw [showTimeout_eq, showWant_eq, showM_frame]
  rfl

theorem doSetShow_showRec (p : Port) (x : ShowBlock) (s : State) : (doSetShow p x s).showRec = showAfter x s.showRec := by
  rw [doSetShow_eq, showM_frame]
  rfl

theorem doSetShow_auth (p : Port) (x : ShowBlock) (s : State) :
    (doSetShow p x s).auth = s.auth.shown s.showRec (showAfter x s.showRec) := by
  rw [doSetShow_eq]
  rfl

end Sys2Proof.Machine

end

section
/-! PROOFS. Traffic restarts the liveness timer of its port (R178): the timer that a transaction has restarted stands through every
effect a transaction can have. -/

namespace Sys2Proof.Machine

/-- The liveness timer of programme port `q` is RUNNING with the full timeout held (R178). -/
def TimerFull (q : Prog) (s : State) : Prop := s.auth.timer q = .running s.showRec.timeoutMs

variable {q : Prog} {s : State}

theorem TimerFull.ite {t : State} {c : Prop} [Decidable c] (hs : TimerFull q s) (ht : TimerFull q t) :
    TimerFull q (if c then s else t) := by
  split
  · exact hs
  · exact ht

theorem timerFull_touch (q : Prog) (s : State) : TimerFull q (touch (.prog q) s) := by cases q <;> rfl

section
variable (h : TimerFull q s)
include h

/-! ## Jobs and the store -/

theorem TimerFull.endSweep (v : Verdict) (why : Option Reason) : TimerFull q (endSweep v why s) := by
  rw [endSweep_frame]
  exact h

theorem TimerFull.cutSweep (v : Verdict) (why : Option Reason) : TimerFull q (cutSweep v why s) := by
  rw [cutSweep_chain]
  exact TimerFull.endSweep (s := s.setChain s.chainAfterCut) h v why

theorem TimerFull.preempt : TimerFull q (preempt s) := by
  unfold Machine.preempt
  split
  · exact h.cutSweep _ _
  · exact h
  · exact h

theorem TimerFull.relearnRequest (p : Port) (u : Unit) : TimerFull q (doRelearn p u s) := by
  rw [doRelearn_eq]
  exact h.preempt

theorem TimerFull.restartChain (p : Port) (u : Unit) : TimerFull q (doRestartChain p u s) := by
  unfold doRestartChain
  rw [restartEffects_eq]
  exact h

theorem TimerFull.putProfile (p : Port) (x : PutBlock) : TimerFull q (doPutProfile p x s) := by
  have hput : ∀ k, TimerFull q (putAt p k x s) := by
    intro k
    unfold putAt
    split <;> exact h
  unfold doPutProfile
  split
  · exact h
  · split
    · split
      · exact h
      · exact hput _
    · exact hput _

theorem TimerFull.abort (p : Port) : TimerFull q (doAbort p s) := by
  unfold doAbort
  split
  · exact h
  · refine .ite h ?_
    unfold abortRequest
    split
    · exact h
    · exact .ite h (h.endSweep _ _)
    · refine .ite h ?_
      rw [endRelearn_frame]
      exact h
    · exact h

/-! ## Authority -/

theorem TimerFull.claim (p : Port) (wait : Bool) : TimerFull q (doClaim p wait s) := by
  unfold doClaim
  split
  · unfold claimBy
    split
    · exact h
    · exact .ite h (.ite h h)
  · exact h

/-- The standby's timer is restarted in full, and the other timer stands (R179, R182). -/
theorem TimerFull.passAuthority (why : LastChange) : TimerFull q (passAuthority why s) := by
  obtain ⟨hpasses, hvacates⟩ := passAuthority_spec s why
  have hshow : (Machine.passAuthority why s).showRec = s.showRec := by rw [passAuthority_frame]
  unfold TimerFull
  rw [hshow]
  cases hs : s.auth.standby with
  | none =>
    rw [(hvacates hs).2]
    exact h
  | some n =>
    rw [(hpasses n hs).2]
    refine (Authority.timer_setTimer s.auth n q _).trans ?_
    split
    · rfl
    · exact h

theorem TimerFull.freeze (p : Port) (k : Key) : TimerFull q (doFreeze p k s) := by
  unfold doFreeze
  split
  · exact h
  · exact .ite h h

theorem TimerFull.thaw (p : Port) (k : Key) : TimerFull q (doThaw p k s) := by
  unfold doThaw
  split
  · exact h
  · exact .ite h h

/-- A new timeout restarts every RUNNING timer with it, and any other SET-SHOW leaves the timers (R178). -/
theorem TimerFull.setShow (p : Port) (x : ShowBlock) : TimerFull q (doSetShow p x s) := by
  have hfull : s.auth.timer q = .running s.showRec.timeoutMs := h
  unfold TimerFull
  rw [doSetShow_auth, doSetShow_showRec, timer_shown, hfull]
  split
  · rename_i htimeout
    rw [ShowRec.timeoutMs, ShowRec.timeoutMs, htimeout]
  · rfl

/-! ## Settings -/

theorem TimerFull.setBudget (p : Port) (x : BudgetBlock) : TimerFull q (doSetBudget p x s) := by
  unfold doSetBudget
  dsimp only
  split <;> exact h

theorem TimerFull.setTemp (p : Port) (x : TempBlock) : TimerFull q (doSetTemp p x s) := by
  rw [doSetTemp_frame]
  exact h

end

/-! ## Every transaction -/

theorem timerFull_transaction (hr : s.inReset = false) {f : State → State} (hf : ∀ u, TimerFull q u → TimerFull q (f u)) :
    TimerFull q (transaction (.prog q) f s) := by
  unfold transaction
  rw [hr]
  exact hf _ (timerFull_touch q s)

/-- A POST restarts the timer before it is judged (R178, R193). -/
theorem timerFull_posted {α : Type} (hr : s.inReset = false) {n : ReqName} {x : Option α} {f : α → State → State}
    (hf : ∀ v u, TimerFull q u → TimerFull q (f v u)) : TimerFull q (posted n (.prog q) x f s) := by
  refine timerFull_transaction hr fun u hu => .ite hu ?_
  split
  · exact hu
  · unfold withBlock
    split
    · exact hu
    · exact hf _ _ hu

end Sys2Proof.Machine

open Sys2Proof Sys2Proof.Machine

/-- Settles O5, transaction by transaction. -/
theorem trafficRestartsTheLivenessTimer : Obligations.TrafficRestartsTheLivenessTimer := by
  intro c q s hwf hc hr
  cases c with
  | status p | read p kind i0 i1 | result p | discardedTransaction p =>
    cases hc
    exact ⟨_, rfl, timerFull_transaction hr fun _ hu => hu⟩
  | abort p =>
    cases hc
    exact ⟨_, rfl, timerFull_transaction hr fun _ hu => hu.abort _⟩
  | claim p b =>
    cases hc
    exact ⟨_, rfl, timerFull_posted hr fun v _ hu => hu.claim _ v⟩
  | release p b =>
    cases hc
    exact ⟨_, rfl, timerFull_posted hr fun _ _ hu => hu.passAuthority .release⟩
  | setShow p b =>
    cases hc
    exact ⟨_, rfl, timerFull_posted hr fun v _ hu => hu.setShow _ v⟩
  | freeze p b =>
    cases hc
    exact ⟨_, rfl, timerFull_posted hr fun v _ hu => hu.freeze _ v⟩
  | thaw p b =>
    cases hc
    exact ⟨_, rfl, timerFull_posted hr fun v _ hu => hu.thaw _ v⟩
  | setBudget p b =>
    cases hc
    exact ⟨_, rfl, timerFull_posted hr fun v _ hu => hu.setBudget _ v⟩
  | putProfile p b =>
    cases hc
    exact ⟨_, rfl, timerFull_posted hr fun v _ hu => hu.putProfile _ v⟩
  | dropProfile p b =>
    cases hc
    exact ⟨_, rfl, timerFull_posted hr fun _ _ hu => .ite hu (.ite hu (.ite hu hu))⟩
  | putMap p b =>
    cases hc
    exact ⟨_, rfl, timerFull_posted hr fun _ _ hu => .ite hu (.ite hu hu)⟩
  | clearMap p b =>
    cases hc
    exact ⟨_, rfl, timerFull_posted hr fun _ _ hu => .ite hu hu⟩
  | setTrack p b =>
    cases hc
    exact ⟨_, rfl, timerFull_posted hr fun _ _ hu => .ite hu hu⟩
  | setSlew p b | setProtect p b | setNotice p b =>
    cases hc
    exact ⟨_, rfl, timerFull_posted hr fun _ _ hu => hu⟩
  | setTemp p b =>
    cases hc
    exact ⟨_, rfl, timerFull_posted hr fun v _ hu => hu.setTemp _ v⟩
  | clearFaults p b =>
    cases hc
    exact ⟨_, rfl, timerFull_posted hr fun _ _ hu => .ite hu hu⟩
  | sweep p b =>
    cases hc
    exact ⟨_, rfl, timerFull_posted hr fun _ _ hu => .ite hu hu.preempt⟩
  | relearn p b =>
    cases hc
    exact ⟨_, rfl, timerFull_posted hr fun v _ hu => hu.relearnRequest _ v⟩
  | restartChain p b =>
    cases hc
    exact ⟨_, rfl, timerFull_posted hr fun v _ hu => hu.restartChain _ v⟩
  | unknownRequestPost p code b =>
    cases hc
    have hunnamed : requestCodeNamed code = false := by simpa [Instr.wf] using hwf
    refine ⟨_, rfl, ?_⟩
    rw [hunnamed]
    exact timerFull_transaction hr fun _ hu => .ite hu hu
  | _ => cases hc

end

section
/-! PROOFS. SET-SHOW: the settings it holds where M stands, and the wall it re-forms where M changes (R93, R99, R100, R174, R178, R184,
R185). -/

namespace Sys2Proof.Machine

/-! ## The settings given -/

section
variable (x : ShowBlock) (r : ShowRec)

theorem showAfter_m : (showAfter x r).m = (x.m.map (min 4096)).getD r.m := setTo_eq _ _ _

theorem showAfter_want : (showAfter x r).want = (x.want.map fun w => ⟨max 1 w.r, max 1 w.g, max 1 w.b⟩).getD r.want :=
  setTo_eq _ _ _

theorem showAfter_floorRatio : (showAfter x r).floorRatio = (x.floorRatio.map (min 4096)).getD r.floorRatio := setTo_eq _ _ _

theorem showAfter_timeout : (showAfter x r).timeout = (x.timeout.map fun v => max 5 (min 100 v)).getD r.timeout :=
  setTo_clampNat_eq _ _ (by decide)

theorem showAfter_ambient : (x.ambient = .keep → (showAfter x r).ambient = r.ambient)
    ∧ (x.ambient = .clear → (showAfter x r).ambient = none)
    ∧ ∀ v, x.ambient = .set v → (showAfter x r).ambient = some (max (-40) (min 125 v)) := by
  refine ⟨fun h => ?_, fun h => ?_, fun v h => ?_⟩ <;> simp only [showAfter, h]
  rw [clampTemp, clampInt_eq v (by decide)]

end

/-! ## A change of M -/

section
variable {old : ShowRec} {s : State}

/-- Where M stands no slot and no sweep moves (R185). -/
theorem showM_of_same (h : s.showRec.m = old.m) : showM old s = s := if_pos h

/-- M at 0 ends no sweep (R174). -/
theorem showM_of_zero (h : s.showRec.m ≠ old.m) (h0 : s.showRec.m = 0) : showM old s = reformAll s :=
  (if_neg h).trans (if_neg fun hcut => Nat.ne_of_gt hcut.1 h0)

/-- M above 0 ends a sweep in progress ABORTED LIVE (R174). -/
theorem showM_of_sweep (h : s.showRec.m ≠ old.m) (hpos : 0 < s.showRec.m) (hs : s.sweep.state ≠ .none) :
    showM old s = cutSweep .aborted (some .live) (reformAll s) :=
  (if_neg h).trans (if_pos ⟨hpos, bne_iff_ne.mpr hs⟩)

theorem tile_cutSweep (v : Verdict) (why : Option Reason) (i : Slot) : (cutSweep v why s).tile i = s.tile i := by
  rw [cutSweep_chain, endSweep_frame]
  rfl

/-- A sweep that is cut ends at its port with its tallies, frees the token, and has the chain controller wind down (R163, R173). -/
theorem cutSweep_spec (v : Verdict) (why : Option Reason) {y : Port} (hi : s.sweep.issuer = some y) :
    PortsAfter y ⟨.sweep, v, why, s.sweep.result⟩ {} s (cutSweep v why s)
      ∧ cutSweep v why s = { s with
          ports := (cutSweep v why s).ports, token := .free, sweep := s.sweep.ended, chain := s.chainAfterCut } := by
  rw [cutSweep_chain]
  exact endSweep_spec (s := s.setChain s.chainAfterCut) v why y hi

/-- A change of M re-forms every slot, whatever becomes of a sweep (R185). -/
theorem tile_showM_of_moved (h : s.showRec.m ≠ old.m) (i : Slot) :
    (showM old s).tile i = formTile .reform s.showRec.m s.budget.sb (s.tile i) := by
  refine Eq.trans ?_ (tile_reformAll s i)
  rw [showM, if_neg h]
  dsimp only
  split
  · exact tile_cutSweep _ _ i
  · rfl

/-- A change of M moves the pending coefficients of a slot, and the record of what they were formed from, alone (R83, R185). -/
theorem tile_showM_frame (old : ShowRec) (s : State) (i : Slot) :
    SameButPending (s.tile i).chain ((showM old s).tile i).chain ∧ ((showM old s).tile i).slew = (s.tile i).slew
      ∧ ((showM old s).tile i).prot = (s.tile i).prot ∧ ((showM old s).tile i).temp = (s.tile i).temp
      ∧ ((showM old s).tile i).held = (s.tile i).held := by
  by_cases h : s.showRec.m = old.m
  · rw [showM_of_same h]
    exact ⟨.refl _, rfl, rfl, rfl, rfl⟩
  · rw [tile_showM_of_moved h]
    exact ⟨formTile_chain _ _ _ _, formTile_slew _ _ _ _, formTile_prot _ _ _ _, formTile_temp _ _ _ _, formTile_held _ _ _ _⟩

/-- A slot that takes no coefficients, or has no applied gains yet, stands (R100). -/
theorem tile_showM_of_gainless {i : Slot} (hg : (s.tile i).gain = none) : (showM old s).tile i = s.tile i := by
  by_cases h : s.showRec.m = old.m
  · rw [showM_of_same h]
  · rw [tile_showM_of_moved h, formTile, hg]

end

/-! ## The request -/

section
variable {p : Port} {x : ShowBlock} {s : State}

theorem tile_doSetShow (i : Slot) :
    (doSetShow p x s).tile i = (showM s.showRec (s.setShowRec (showAfter x s.showRec))).tile i := by
  rw [doSetShow_eq]
  rfl

/-- Under a new M a slot with a gain is formed anew from it, with the held P and Sb (R99, R185). -/
theorem tile_doSetShow_of_gain (hm : (showAfter x s.showRec).m ≠ s.showRec.m) {i : Slot} {g : RGB Nat}
    (hg : (s.tile i).gain = some g) :
    (doSetShow p x s).tile i = placeCoefs .reform (showAfter x s.showRec).m s.budget.sb g (s.tile i) :=
  (tile_doSetShow i).trans ((tile_showM_of_moved (s := s.setShowRec (showAfter x s.showRec)) hm i).trans (formTile_of_gain hg))

theorem doSetShow_budget : (doSetShow p x s).budget = s.budget := by
  rw [doSetShow_eq, showM_frame]
  rfl

theorem doSetShow_store : (doSetShow p x s).store = s.store := by
  rw [doSetShow_eq, showM_frame]
  rfl

/-- The request completes at its port with the show record that is now held, whatever a change of M has told that port before. -/
theorem doSetShow_result :
    ((doSetShow p x s).port p).result = some ⟨.setShow, .done, none, .shown (showAfter x s.showRec)⟩ := by
  rw [doSetShow_eq]
  exact (port_finish _ p _ _).1

/-- Where M stands the ports, the show record, the wall and the timers alone move. -/
theorem doSetShow_of_sameM (hm : (showAfter x s.showRec).m = s.showRec.m) : doSetShow p x s =
    finish p .setShow (.shown (showAfter x s.showRec))
      (((s.setShowRec (showAfter x s.showRec)).setWall (s.wall.shown s.showRec (showAfter x s.showRec))).setAuth
        (s.auth.shown s.showRec (showAfter x s.showRec))) := by
  rw [doSetShow_eq, showM_of_same (s := s.setShowRec (showAfter x s.showRec)) hm]

/-- A SET-SHOW changes no slot state, no flag and no action, so its event is its effect. -/
theorem notify_doSetShow (a : Authority) : notify s (doSetShow p x (s.setAuth a)) = doSetShow p x (s.setAuth a) := by
  have hslot : ∀ i, SameButPending (s.tile i).chain ((doSetShow p x (s.setAuth a)).tile i).chain
      ∧ ((doSetShow p x (s.setAuth a)).tile i).prot = (s.tile i).prot := by
    intro i
    rw [tile_doSetShow]
    obtain ⟨hchain, _, hprot, _⟩ := tile_showM_frame s.showRec ((s.setAuth a).setShowRec (showAfter x s.showRec)) i
    exact ⟨hchain, hprot⟩
  refine notify_quiet (tileDue_false fun i => (hslot i).1.tileNotice) (condDue_false (fun i => ?_) ?_ ?_)
  · rw [(hslot i).2]
    exact ProtRec.sameFlags_self _
  · rw [doSetShow_budget, State.setAuth_budget]
  · rw [doSetShow_budget, State.setAuth_budget]

theorem exec_setShow {block : List Byte} (hacc : Accepts .setShow p s) (hx : readShow block = some x) :
    exec (.setShow p block) s = .next (doSetShow p x (s.setAuth (trafficAuth p s))) :=
  congrArg Host.Outcome.next ((posted_accepted s hacc hx).trans (notify_doSetShow _))

/-- Traffic and a change of the timeout move the timers alone (R178). -/
theorem trafficAuth_shown_frame (p : Port) (old new : ShowRec) (s : State) : (trafficAuth p s).shown old new = { s.auth with
    timerA := ((trafficAuth p s).shown old new).timerA, timerB := ((trafficAuth p s).shown old new).timerB } := by
  refine (shown_frame old new _).trans ?_
  rcases p with (_ | _) | _ <;> rfl

/-! ## A sweep under the new M -/

/-- A sweep of another port's is over, its token free, and its port has ABORTED LIVE (R174). -/
theorem doSetShow_of_sweep {y : Port} (hm : (showAfter x s.showRec).m ≠ s.showRec.m) (hpos : 0 < (showAfter x s.showRec).m)
    (hs : s.sweep.state ≠ .none) (hi : s.sweep.issuer = some y) (hy : y ≠ p) :
    (doSetShow p x s).sweep = s.sweep.ended ∧ (doSetShow p x s).token = .free
      ∧ ((doSetShow p x s).port y).result = some ⟨.sweep, .aborted, some .live, s.sweep.result⟩
      ∧ ((doSetShow p x s).port y).busy = none := by
  obtain ⟨⟨hport, _⟩, hframe⟩ :=
    cutSweep_spec (s := reformAll (s.setShowRec (showAfter x s.showRec))) .aborted (some .live) hi
  have hcut := showM_of_sweep (s := s.setShowRec (showAfter x s.showRec)) hm hpos hs
  have hend : (doSetShow p x s).port y =
      (cutSweep .aborted (some .live) (reformAll (s.setShowRec (showAfter x s.showRec)))).port y := by
    rw [doSetShow_eq, port_finish_other _ _ hy, hcut]
    rfl
  refine ⟨?_, ?_, ?_, ?_⟩
  · rw [doSetShow_eq, hcut, hframe]
    rfl
  · rw [doSetShow_eq, hcut, hframe]
    rfl
  · rw [hend, hport]
    rfl
  · rw [hend, hport]

/-- A change of M to 0 leaves a sweep as it is (R174). -/
theorem doSetShow_of_zero (hm : (showAfter x s.showRec).m ≠ s.showRec.m) (h0 : (showAfter x s.showRec).m = 0) :
    (doSetShow p x s).sweep = s.sweep ∧ (doSetShow p x s).token = s.token := by
  rw [doSetShow_eq, showM_of_zero (s := s.setShowRec (showAfter x s.showRec)) hm h0]
  exact ⟨rfl, rfl⟩

end

end Sys2Proof.Machine

open Sys2Proof Sys2Proof.Machine

/-- Settles O20, setting by setting, and then Target and the timers by whether Want and the timeout have changed. -/
theorem setShowHoldsItsSettings : Obligations.SetShowHoldsItsSettings := by
  intro p block x s hacc hx hm
  have hsame : (showAfter x s.showRec).m = s.showRec.m := (showAfter_m x s.showRec).trans hm
  obtain ⟨hkeep, hclear, hset⟩ := showAfter_ambient x s.showRec
  refine ⟨_, exec_setShow hacc hx, ?_⟩
  rw [doSetShow_of_sameM (s := s.setAuth (trafficAuth p s)) hsame]
  refine ⟨hsame, showAfter_want x _, showAfter_floorRatio x _, hkeep, hclear, hset, showAfter_timeout x _,
    (complete_spec _ p .setShow .done none _).1, fun hwant => ?newWant, fun hwant => ?sameWant, fun htimeout => ?sameTimeout,
    fun htimeout q => ?newTimeout, ?frame⟩
  case newWant => exact if_neg hwant
  case sameWant => exact if_pos hwant
  case sameTimeout => exact if_pos htimeout
  case newTimeout =>
    refine (timer_shown s.showRec (showAfter x s.showRec) (trafficAuth p s) q).trans ((if_neg htimeout).trans ?_)
    cases (trafficAuth p s).timer q with
    | running | stopped | expired => rfl
  case frame =>
    exact congrArg (fun a => ({ s with ports := _, auth := a, showRec := _, wall := _ } : State))
      (trafficAuth_shown_frame p s.showRec (showAfter x s.showRec) s)

/-- Settles O21: every slot by whether it has a gain to be formed from, and the sweep by whether M is now 0. -/
theorem setShowOfMReformsTheWall : Obligations.SetShowOfMReformsTheWall := by
  intro p block x m s hacc hx hxm hmoved
  have hm : (showAfter x s.showRec).m = min 4096 m := by rw [showAfter_m, hxm]; rfl
  have hnew : (showAfter x s.showRec).m ≠ s.showRec.m := hm ▸ hmoved
  refine ⟨_, exec_setShow hacc hx, (congrArg ShowRec.m (doSetShow_showRec _ _ _)).trans hm, fun i g hg => ?reformed,
    fun i hactive hunprofiled => ?dark, fun i hactive hga => ?unset, fun i => ?frame, ?result, doSetShow_budget, doSetShow_store,
    fun y hs hi hy hpos => ?live, fun h0 => ?zero⟩
  case reformed =>
    have hgain : (s.tile i).gain = some g := Tile.FormsFrom.gain hg
    rw [tile_doSetShow_of_gain (s := s.setAuth (trafficAuth p s)) hnew hgain, ← hm]
    exact ⟨rfl, rfl, rfl⟩
  case dark =>
    rw [tile_doSetShow]
    exact tile_showM_of_gainless (Tile.gain_of_dark hactive hunprofiled)
  case unset =>
    rw [tile_doSetShow]
    exact tile_showM_of_gainless ((Tile.gain_of_active hactive).trans hga)
  case frame =>
    rw [tile_doSetShow]
    exact (tile_showM_frame s.showRec _ i).2
  case result =>
    rw [doSetShow_showRec]
    exact doSetShow_result
  case live =>
    have habove : 0 < (showAfter x s.showRec).m := by omega
    obtain ⟨hsweep, htoken, hresult, hbusy⟩ :=
      doSetShow_of_sweep (p := p) (s := s.setAuth (trafficAuth p s)) hnew habove hs hi hy
    exact ⟨by rw [hsweep]; rfl, htoken, _, hresult, hbusy⟩
  case zero => exact doSetShow_of_zero (s := s.setAuth (trafficAuth p s)) hnew (hm.trans (by rw [h0]; rfl))

end

section
/-! PROOFS. The pending sets of the ports (R200): every operation of the part but a STATUS and a reset leaves each class that is
pending at a port pending there. -/

namespace Sys2Proof.Machine

variable {o s : State}

theorem PendingKept.ite {t : State} {c : Prop} [Decidable c] (hs : PendingKept o s) (ht : PendingKept o t) :
    PendingKept o (if c then s else t) := by
  split
  · exact hs
  · exact ht

section
variable (h : PendingKept o s)
include h

/-! ## Ports -/

theorem PendingKept.noticeAll (n : Notices) : PendingKept o (s.noticeAll n) := h.trans (.of_noticeAll s n)

theorem PendingKept.notify (before : State) : PendingKept o (notify before s) := h.noticeAll _

theorem PendingKept.complete (p : Port) (n : ReqName) (v : Verdict) (why : Option Reason) (d : ResultData) :
    PendingKept o (complete p n v why d s) := h.trans (.of_complete s p n v why d)

theorem PendingKept.finish (p : Port) (n : ReqName) (d : ResultData) : PendingKept o (finish p n d s) := h.complete _ _ _ _ _

theorem PendingKept.refuse (p : Port) (n : ReqName) (why : Reason) : PendingKept o (refuse p n why s) := h.complete _ _ _ _ _

/-- A port may move in all but its pending set. -/
theorem PendingKept.putPort {p : Port} {x : PortRec} (hx : x.pending = (s.port p).pending) : PendingKept o (s.putPort p x) := by
  refine h.trans fun q => ?_
  by_cases hq : q = p
  · rw [hq, State.port_putPort_same, hx, Notices.union_self]
  · rw [State.port_putPort_other s p q x hq, Notices.union_self]

theorem PendingKept.hold (p : Port) (n : ReqName) : PendingKept o (hold p n s) := h.putPort rfl

theorem PendingKept.foldl {α : Type} {f : State → α → State} (hf : ∀ u x, PendingKept o u → PendingKept o (f u x))
    (xs : List α) : PendingKept o (xs.foldl f s) := by
  induction xs generalizing s with
  | nil => exact h
  | cons x xs ih => exact ih (hf s x h)

/-! ## Updates of other records -/

theorem PendingKept.of_ports {t : State} (ht : t.ports = s.ports) : PendingKept o t := by
  intro q
  unfold State.port
  rw [ht]
  exact h q


theorem PendingKept.setToken (x : Token) : PendingKept o (s.setToken x) := h
theorem PendingKept.setAuth (x : Authority) : PendingKept o (s.setAuth x) := h
theorem PendingKept.setChain (x : ChainCtl) : PendingKept o (s.setChain x) := h
theorem PendingKept.setActivity (a : Activity) : PendingKept o (s.setActivity a) := h
theorem PendingKept.setTiles (x : Table Tile 64) : PendingKept o (s.setTiles x) := h
theorem PendingKept.putTile (i : Slot) (t : Tile) : PendingKept o (s.putTile i t) := h
theorem PendingKept.setSweep (x : SweepRec) : PendingKept o (s.setSweep x) := h

/-! ## Rounds and sweeps -/

theorem PendingKept.endSweep (v : Verdict) (why : Option Reason) : PendingKept o (endSweep v why s) := by
  unfold Machine.endSweep
  split
  · exact h
  · exact ((h.setSweep _).setToken _).complete _ _ _ _ _

theorem PendingKept.recompute : PendingKept o (recompute s) := by
  unfold Machine.recompute
  exact PendingKept.noticeAll (s := ((s.setTiles _).setWall _).setBudget _) h _

theorem PendingKept.pushFrom (k : Nat) : PendingKept o (pushFrom k s) := by
  rcases pushFrom_spec s k with ⟨e, _⟩ | ⟨i, _, _, e⟩ <;> rw [e] <;> exact h

theorem PendingKept.completePollPhase : PendingKept o (completePollPhase s) := h.recompute.pushFrom 0

theorem PendingKept.finishRange : PendingKept o (finishRange s) := .ite (h.endSweep _ _) h

theorem PendingKept.probeFromCursor : PendingKept o (probeFromCursor s) := by
  unfold Machine.probeFromCursor
  split
  · exact h
  · dsimp only
    split
    · exact h
    · exact (h.setSweep _).finishRange

theorem PendingKept.probeStep : PendingKept o (probeStep s) := by
  unfold Machine.probeStep
  split
  · exact h.probeFromCursor
  · dsimp only
    split
    · split
      · exact (h.setSweep _).probeFromCursor
      · split
        · exact h
        · exact (h.setSweep _).probeFromCursor
    · split <;> exact ((h.putTile _ _).setSweep _).probeFromCursor

theorem PendingKept.probePhase : PendingKept o (probePhase s) := by
  have hstep : PendingKept o (Machine.probeStep (s.setActivity .idle)) := (h.setActivity .idle).probeStep
  exact .ite (.ite hstep hstep.completePollPhase) h.completePollPhase

theorem PendingKept.pollFrom (k : Nat) : PendingKept o (pollFrom k s) := by
  rcases pollFrom_spec s k with ⟨e, _⟩ | ⟨i, _, _, e⟩ <;> rw [e]
  · unfold adoptPhase
    split
    · exact h
    · exact h.probePhase
  · exact h

theorem PendingKept.startRound : PendingKept o (startRound s) := (h.setChain _).pollFrom 0

/-! ## The end of a probe step, and the queue of sense writes -/

theorem PendingKept.reportSense (w : SenseWrite) (ok : Bool) : PendingKept o (reportSense w ok s) := h.trans (.of_reportSense w ok)

theorem PendingKept.startQueue (ws : List SenseWrite) : PendingKept o (startQueue ws s) := by
  induction ws generalizing s with
  | nil => exact h
  | cons w ws ih =>
    unfold Machine.startQueue
    exact .ite h (ih (h.reportSense w false))

theorem PendingKept.handSenseWrite (w : SenseWrite) : PendingKept o (handSenseWrite w s) := .ite h (h.startQueue _)

theorem PendingKept.handOver (i : Slot) : PendingKept o (handOver i s) := by
  unfold Machine.handOver
  dsimp only
  split
  · exact h
  · refine .ite h (.ite h ?_)
    split
    · exact h
    · exact (h.setSweep _).handSenseWrite _

theorem PendingKept.settleProbe (i : Slot) (c : Chan) (e : ProbeEnd) : PendingKept o (settleProbe i c e s) := by
  refine .ite h (.ite (h.endSweep _ _) ?_)
  split
  · exact .ite h (h.handOver i)
  · exact h
  · exact h
  · exact h

theorem PendingKept.endProbeStep (i : Slot) (c : Chan) (e : ProbeEnd) : PendingKept o (endProbeStep i c e s) :=
  (h.settleProbe i c e).completePollPhase

theorem PendingKept.senseReplied (i : Slot) (c : Chan) (r count : Nat) : PendingKept o (senseReplied i c r count s) := by
  refine .ite h ?_
  split <;> exact h

/-! ## Replies and the enumeration -/

theorem PendingKept.pollReplied (i : Slot) (temp : Option Int) (fault : Bool) (hours load : Nat) (echo : RGB Nat) :
    PendingKept o (pollReplied i temp fault hours load echo s) := by
  rw [pollReplied_eq]
  exact h.putTile _ _

theorem PendingKept.adoptReplied (i : Slot) (serial : Serial) : PendingKept o (adoptReplied i serial s) := by
  refine .ite h ?_
  unfold joinByAdopt
  rw [tryBind_frame]
  exact h

theorem PendingKept.endRelearn (v : Verdict) (why : Option Reason) (d : ResultData) : PendingKept o (endRelearn v why d s) :=
  h.trans (.of_endRelearn s v why d)

theorem PendingKept.completeEnumeration (n : Nat) (long : Bool) : PendingKept o (completeEnumeration n long s) := by
  obtain ⟨b, _, e⟩ := completeEnumeration_eq s n long
  rw [e]
  exact (((h.noticeAll _).setTiles b).setChain _).endRelearn _ _ _

theorem PendingKept.abortEnumeration (n : Nat) : PendingKept o (abortEnumeration n s) := by
  rw [abortEnumeration_eq]
  exact ((h.setTiles _).setChain _).endRelearn _ _ _

theorem PendingKept.enumReplied (n : Nat) (serial : Serial) : PendingKept o (enumReplied n serial s) := by
  unfold Machine.enumReplied
  split
  · exact h.completeEnumeration _ _
  · have htile : ∀ i t, PendingKept o (Machine.notify s (s.putTile i t)) := fun i t => (h.putTile i t).notify s
    exact .ite ((htile _ _).abortEnumeration _) (htile _ _)

theorem PendingKept.enumUnanswered (n : Nat) : PendingKept o (enumUnanswered n s) := by
  unfold Machine.enumUnanswered
  split
  · exact h.completeEnumeration _ _
  · exact .ite (h.abortEnumeration n) ((h.setTiles _).completeEnumeration _ _)

/-! ## The store -/

/-- A write that completes adds STORE, and what its report and the sweep's end add. -/
theorem PendingKept.completeWrite (w : StoreWrite) : PendingKept o (completeWrite w s) := by
  have hresolved : PendingKept o (w.op.resolved s) := h.of_ports (by rw [resolved_frame]; rfl)
  have hretried : PendingKept o (retryWaiting (w.op.resolved s)) := hresolved.of_ports (by rw [retryWaiting_frame])
  have hbound : PendingKept o (w.op.bound s) := hretried.noticeAll _
  have hreport : ∀ u, PendingKept o u → PendingKept o (w.op.report w.issuer s u) := by
    intro u hu
    unfold WriteOp.report
    split
    case h_1 => exact hu.reportSense _ _
    case h_2 | h_3 | h_4 | h_5 => exact hu.finish _ _ _
    case h_6 | h_7 | h_8 | h_9 => exact hu
  rw [completeWrite_eq]
  exact (hreport _ hbound).startQueue _

/-! ## Authority and jobs -/

theorem PendingKept.passAuthority (why : LastChange) : PendingKept o (passAuthority why s) := by
  unfold Machine.passAuthority
  split
  · exact (((h.setAuth _).setAuth _).finish _ _ _).noticeAll _
  · exact (h.setAuth _).noticeAll _

theorem PendingKept.expireTimer (q : Prog) : PendingKept o (expireTimer q s) :=
  .ite ((h.setAuth _).passAuthority _) h

theorem PendingKept.cutSweep (v : Verdict) (why : Option Reason) : PendingKept o (cutSweep v why s) := by
  obtain ⟨c, e⟩ := cutSweep_eq s v why
  rw [e]
  exact (h.setChain c).endSweep v why

theorem PendingKept.preempt : PendingKept o (preempt s) := by
  unfold Machine.preempt
  split
  · exact h.cutSweep _ _
  · exact h
  · exact h

theorem PendingKept.cancelJob : PendingKept o (cancelJob s) := by
  unfold Machine.cancelJob
  split
  · exact h
  · exact h.endSweep _ _
  · exact h.endRelearn _ _ _

/-! ## Time -/

theorem PendingKept.chainDue : PendingKept o (chainDue s) := .ite h (.ite (h.startRound.notify s) h)

theorem PendingKept.tick : PendingKept o (tick s) := by
  have haged : PendingKept o s.aged := h
  have hlive : ∀ q u, PendingKept o u → PendingKept o (expireDue q u) := fun q u hu => .ite ((hu.expireTimer q).notify u) hu
  have hretry : ∀ u x, PendingKept o u → PendingKept o (retryDue u x) := fun u x hu =>
    .ite (((hu.putTile _ _).putTile _ _).notify u) hu
  exact .ite h (((hlive _ _ (hlive _ _ haged)).foldl hretry _).chainDue)

end

end Sys2Proof.Machine
end

section
/-! PROOFS. What each request adds to the pending sets, and the step lemma: STATUS alone empties one (R197, R200). -/

namespace Sys2Proof.Machine

variable {o s : State}

section
variable (h : PendingKept o s)
include h

/-! ## Authority -/

theorem PendingKept.claim (p : Port) (wait : Bool) : PendingKept o (doClaim p wait s) := by
  unfold doClaim
  split
  · unfold claimBy
    split
    · exact ((h.setAuth _).finish _ _ _).noticeAll _
    · exact .ite (h.finish _ _ _) (.ite (((h.setAuth _).hold _ _).noticeAll _) (h.refuse _ _ _))
  · exact h.refuse _ _ _

theorem PendingKept.release (p : Port) (u : Unit) : PendingKept o (doRelease p u s) := (h.passAuthority _).finish _ _ _

theorem PendingKept.freeze (p : Port) (k : Key) : PendingKept o (doFreeze p k s) := by
  unfold doFreeze
  split
  · exact ((h.setAuth _).finish _ _ _).noticeAll _
  · exact .ite (h.finish _ _ _) (h.refuse _ _ _)

theorem PendingKept.thaw (p : Port) (k : Key) : PendingKept o (doThaw p k s) := by
  unfold doThaw
  split
  · exact h.finish _ _ _
  · exact .ite (((h.setAuth _).finish _ _ _).noticeAll _) (h.refuse _ _ _)

/-- A change of M may end a sweep (R174, R185). -/
theorem PendingKept.showM (old : ShowRec) : PendingKept o (showM old s) :=
  .ite h (.ite ((h.setTiles _).cutSweep _ _) (h.setTiles _))

theorem PendingKept.setShow (p : Port) (x : ShowBlock) : PendingKept o (doSetShow p x s) := by
  have hset : PendingKept o (s.setShowRec (showAfter x s.showRec)) := h
  rw [doSetShow_eq]
  exact PendingKept.finish (s := ((Machine.showM _ _).setWall _).setAuth _) (hset.showM _) _ _ _

/-! ## The store -/

theorem PendingKept.beginWrite (p : Port) (n : ReqName) (op : WriteOp) (issuer : Option Port) :
    PendingKept o (Machine.hold p n (beginWrite op issuer s)) := PendingKept.hold (s := Machine.beginWrite op issuer s) h p n

theorem PendingKept.putAt (p : Port) (k : Nat) (x : PutBlock) : PendingKept o (putAt p k x s) := by
  unfold Machine.putAt
  split
  · exact h.refuse _ _ _
  · exact h.beginWrite _ _ _ _

theorem PendingKept.putProfile (p : Port) (x : PutBlock) : PendingKept o (doPutProfile p x s) := by
  refine .ite (h.refuse _ _ _) (.ite ?_ (h.putAt _ _ _))
  split
  · exact h.refuse _ _ _
  · exact h.putAt _ _ _

theorem PendingKept.dropProfile (p : Port) (k : Nat) : PendingKept o (doDropProfile p k s) :=
  .ite (h.refuse _ _ _) (.ite (h.refuse _ _ _) (.ite (h.refuse _ _ _) (h.beginWrite _ _ _ _)))

theorem PendingKept.putMap (p : Port) (x : Pos × Option Slot) : PendingKept o (doPutMap p x s) :=
  .ite (h.refuse _ _ _) (.ite (h.refuse _ _ _) (h.beginWrite _ _ _ _))

theorem PendingKept.clearMap (p : Port) (u : Unit) : PendingKept o (doClearMap p u s) :=
  .ite (h.refuse _ _ _) (h.beginWrite _ _ _ _)

/-! ## Settings -/

theorem PendingKept.setBudget (p : Port) (x : BudgetBlock) : PendingKept o (doSetBudget p x s) := by
  unfold doSetBudget
  dsimp only
  refine PendingKept.finish (.ite ?_ ?_) _ _ _ <;> exact h

theorem PendingKept.setTrack (p : Port) (x : TrackBlock) : PendingKept o (doSetTrack p x s) :=
  .ite ((h.putTile _ _).finish _ _ _) (h.refuse _ _ _)

theorem PendingKept.setTemp (p : Port) (x : TempBlock) : PendingKept o (doSetTemp p x s) := by
  unfold doSetTemp
  dsimp only
  refine PendingKept.finish (.ite ?_ ?_) _ _ _ <;> exact h

theorem PendingKept.clearFaults (p : Port) (target : Option Slot) : PendingKept o (doClearFaults p target s) :=
  .ite (h.refuse _ _ _) (PendingKept.finish (s := settleAll s _) h _ _ _)

theorem PendingKept.setNotice (p : Port) (m : Notices) : PendingKept o (doSetNotice p m s) :=
  (h.putPort (x := { s.port p with mask := m }) rfl).finish _ _ _

/-! ## Jobs -/

theorem PendingKept.sweepRequest (p : Port) (x : SweepParams) : PendingKept o (doSweep p x s) :=
  .ite (h.refuse _ _ _) (((h.preempt.setSweep _).setToken _).hold _ _)

theorem PendingKept.relearnRequest (p : Port) (u : Unit) : PendingKept o (doRelearn p u s) := by
  have hheld : PendingKept o (Machine.hold p .relearn ((Machine.preempt s).setToken (.relearn (some p)))) :=
    (h.preempt.setToken _).hold _ _
  exact .ite (hheld.setChain _) hheld

theorem PendingKept.restartChain (p : Port) (u : Unit) : PendingKept o (doRestartChain p u s) := by
  have hrest : PendingKept o (restartEffects s) := h.cancelJob.of_ports (by rw [restartEffects_eq])
  exact hrest.finish _ _ _

theorem PendingKept.abort (p : Port) : PendingKept o (doAbort p s) := by
  have hask : PendingKept o (askAbort p s) := h.putPort rfl
  unfold doAbort
  split
  · exact h
  · refine .ite h ?_
    unfold abortRequest
    split
    · exact ((h.setAuth _).complete _ _ _ _ _).noticeAll _
    · exact .ite hask (h.endSweep _ _)
    · exact .ite hask (h.endRelearn _ _ _)
    · exact hask

theorem PendingKept.unknownPost (p : Port) (code : Byte) : PendingKept o (unknownPost p code s) :=
  .ite (h.putPort rfl) (h.refuse _ _ _)

/-! ## Every command -/

theorem PendingKept.touch (p : Port) : PendingKept o (touch p s) := by
  rw [touch_eq]
  exact h.setAuth _

theorem PendingKept.transaction {p : Port} {f : State → State} (hf : ∀ u, PendingKept o u → PendingKept o (f u)) :
    PendingKept o (transaction p f s) := .ite h (hf _ (h.touch p))

/-- A POST keeps every pending class where its own effect does. -/
theorem PendingKept.posted {α : Type} {n : ReqName} {p : Port} {x : Option α} {f : α → State → State}
    (hf : ∀ v u, PendingKept o u → PendingKept o (f v u)) : PendingKept o (posted n p x f s) := by
  refine PendingKept.notify (s := post n p (withBlock n p x f) s) (h.transaction fun u hu => .ite (hu.putPort rfl) ?_) s
  split
  · exact hu.refuse _ _ _
  · unfold withBlock
    split
    · exact hu.refuse _ _ _
    · exact hf _ _ hu

/-- Each transaction of a port but STATUS (R197, R200). -/
theorem PendingKept.of_transactionCommand (c : Instr) (hc : transactionOn c ≠ none) (hs : ∀ p, c ≠ .status p) :
    ∃ t, exec c s = .next t ∧ PendingKept o t := by
  cases c with
  | status p => exact absurd rfl (hs p)
  | read p kind i0 i1 | result p => exact ⟨_, rfl, h.transaction fun _ hu => hu.putPort rfl⟩
  | discardedTransaction p => exact ⟨_, rfl, h.transaction fun _ hu => hu⟩
  | abort p => exact ⟨_, rfl, h.transaction fun _ hu => hu.abort p⟩
  | claim p b => exact ⟨_, rfl, h.posted fun v _ hu => hu.claim p v⟩
  | release p b => exact ⟨_, rfl, h.posted fun v _ hu => hu.release p v⟩
  | setShow p b => exact ⟨_, rfl, h.posted fun v _ hu => hu.setShow p v⟩
  | freeze p b => exact ⟨_, rfl, h.posted fun v _ hu => hu.freeze p v⟩
  | thaw p b => exact ⟨_, rfl, h.posted fun v _ hu => hu.thaw p v⟩
  | setBudget p b => exact ⟨_, rfl, h.posted fun v _ hu => hu.setBudget p v⟩
  | putProfile p b => exact ⟨_, rfl, h.posted fun v _ hu => hu.putProfile p v⟩
  | dropProfile p b => exact ⟨_, rfl, h.posted fun v _ hu => hu.dropProfile p v⟩
  | putMap p b => exact ⟨_, rfl, h.posted fun v _ hu => hu.putMap p v⟩
  | clearMap p b => exact ⟨_, rfl, h.posted fun v _ hu => hu.clearMap p v⟩
  | setTrack p b => exact ⟨_, rfl, h.posted fun v _ hu => hu.setTrack p v⟩
  | setSlew p b => exact ⟨_, rfl, h.posted fun v u hu => PendingKept.finish (s := u.setSlewSet _) hu _ _ _⟩
  | setTemp p b => exact ⟨_, rfl, h.posted fun v _ hu => hu.setTemp p v⟩
  | setProtect p b => exact ⟨_, rfl, h.posted fun v u hu => PendingKept.finish (s := settleAll u _) hu _ _ _⟩
  | clearFaults p b => exact ⟨_, rfl, h.posted fun v _ hu => hu.clearFaults p v⟩
  | sweep p b => exact ⟨_, rfl, h.posted fun v _ hu => hu.sweepRequest p v⟩
  | relearn p b => exact ⟨_, rfl, h.posted fun v _ hu => hu.relearnRequest p v⟩
  | restartChain p b => exact ⟨_, rfl, h.posted fun v _ hu => hu.restartChain p v⟩
  | setNotice p b => exact ⟨_, rfl, h.posted fun v _ hu => hu.setNotice p v⟩
  | unknownRequestPost p code b => exact ⟨_, rfl, .ite h (h.transaction fun _ hu => hu.unknownPost p code)⟩
  | _ => exact absurd rfl hc

/-- Each reply, window expiry, timer, start and store-write completion, and a release of RESETn that is high already. -/
theorem PendingKept.of_chainCommand (c : Instr) (hc : transactionOn c = none) (hr : ∀ cause cut, c ≠ .hardReset cause cut)
    (hn : c = .resetnRelease → s.inReset = false) : ∃ t, exec c s = .next t ∧ PendingKept o t := by
  have hanswered : ∀ i, PendingKept o (answeredAt i s) := fun i => h.putTile i _
  have hmissed : ∀ i, PendingKept o (missAt i s) := fun i => h.putTile i _
  cases c with
  | hardReset cause cut => exact absurd rfl (hr cause cut)
  | resetnRelease =>
    refine ⟨_, rfl, ?_⟩
    rw [hn rfl]
    exact h
  | roundStart => exact ⟨_, rfl, .ite (h.startRound.notify s) h⟩
  | relearnEnumerationStart => exact ⟨_, rfl, .ite (h.setChain _) h⟩
  | livenessTimerExpiry q => exact ⟨_, rfl, .ite ((h.expireTimer q).notify s) h⟩
  | retryTimerExpiry i cls => exact ⟨_, rfl, .ite (((h.putTile _ _).putTile _ _).notify s) h⟩
  | pollReply temp fault hours load echo =>
    refine ⟨_, rfl, ?_⟩
    split
    · exact .ite (((h.pollReplied _ _ _ _ _ _).pollFrom _).notify s) h
    · exact h
  | pollMiss =>
    refine ⟨_, rfl, ?_⟩
    split
    · exact ((hmissed _).pollFrom _).notify s
    · exact h
  | pushReply echo =>
    refine ⟨_, rfl, ?_⟩
    split
    · exact .ite (((h.putTile _ _).pushFrom _).notify s) h
    · exact h
  | pushMiss =>
    refine ⟨_, rfl, ?_⟩
    split
    · exact ((hmissed _).pushFrom _).notify s
    · exact h
  | adoptReply serial =>
    refine ⟨_, rfl, ?_⟩
    split
    · exact (h.adoptReplied _ _).probePhase.notify s
    · exact h
  | adoptNoReply =>
    refine ⟨_, rfl, ?_⟩
    split
    · exact h.probePhase.notify s
    · exact h
  | enumReply serial =>
    refine ⟨_, rfl, ?_⟩
    split
    · exact (h.enumReplied _ _).notify s
    · exact h
  | enumNoReply =>
    refine ⟨_, rfl, ?_⟩
    split
    · exact (h.enumUnanswered _).notify s
    · exact h
  | patchReply =>
    refine ⟨_, rfl, ?_⟩
    split
    · rename_i i c _
      have hnext : PendingKept o (if discarding (answeredAt i s) then sendPatchOff i c 0 .discarded (answeredAt i s)
          else (answeredAt i s).setActivity (.settle i c)) := .ite (hanswered i) (hanswered i)
      exact hnext.notify s
    · exact ((hanswered _).endProbeStep _ _ _).notify s
    · exact h
  | patchMiss =>
    refine ⟨_, rfl, ?_⟩
    split
    · exact ((hmissed _).setActivity _).notify s
    · exact ((hmissed _).endProbeStep _ _ _).notify s
    · exact h
  | settleWaitEnd =>
    refine ⟨_, rfl, ?_⟩
    split
    · exact .ite (h.setActivity _) (h.setActivity _)
    · exact h
  | senseReply status count =>
    refine ⟨_, rfl, ?_⟩
    split
    · exact .ite (((hanswered _).senseReplied _ _ _ _).notify s) h
    · exact h
  | senseMiss =>
    refine ⟨_, rfl, ?_⟩
    split
    · exact ((hmissed _).setActivity _).notify s
    · exact h
  | storeWriteComplete =>
    refine ⟨_, rfl, ?_⟩
    split
    · exact (h.completeWrite _).notify s
    · exact h
  | _ => simp [transactionOn] at hc

end

/-- STATUS moves the record of its own port alone (R197). -/
theorem exec_status_other {p q : Port} (hq : q ≠ p) (s : State) :
    ∃ t, exec (.status p) s = .next t ∧ t.port q = s.port q := by
  refine ⟨_, rfl, ?_⟩
  unfold transaction
  split
  · rfl
  · rw [doStatus, State.port_putPort_other _ p q _ hq, touch_eq, State.port_setAuth]

/-- A command other than a STATUS on port `p` and a reset leaves pending at `p` what was pending there (R200). -/
theorem exec_keeps_pending {c : Instr} {p : Port} (s : State) (hs : c ≠ .status p) (hr : ∀ cause cut, c ≠ .hardReset cause cut)
    (hn : c = .resetnRelease → s.inReset = false) :
    ∃ t, exec c s = .next t ∧ (s.port p).pending.union (t.port p).pending = (t.port p).pending := by
  have hkept := PendingKept.refl s
  by_cases hstatus : ∃ q, c = .status q
  · obtain ⟨q, rfl⟩ := hstatus
    obtain ⟨t, ht, hp⟩ := exec_status_other (p := q) (q := p) (fun e => hs (by rw [e])) s
    exact ⟨t, ht, by rw [hp, Notices.union_self]⟩
  · by_cases hc : transactionOn c = none
    · obtain ⟨t, ht, hk⟩ := hkept.of_chainCommand c hc hr hn
      exact ⟨t, ht, hk p⟩
    · obtain ⟨t, ht, hk⟩ := hkept.of_transactionCommand c hc fun q e => hstatus ⟨q, e⟩
      exact ⟨t, ht, hk p⟩

end Sys2Proof.Machine

open Sys2Proof Sys2Proof.Machine

/-- Settles O59: a command adds classes or leaves them, STATUS on another port leaves this one, and time that passes only adds. -/
theorem onlyStatusEmptiesThePendingSet : Obligations.OnlyStatusEmptiesThePendingSet := by
  intro s t p hstep hstatus hreset hrelease
  unfold step at hstep
  split at hstep
  · rename_i c rest hp
    obtain ⟨u, hu, hkept⟩ := exec_keeps_pending (c := c) (p := p) (s.setPending rest) (fun e => hstatus rest (by rw [hp, e]))
      (fun cause cut e => hreset cause cut rest (by rw [hp, e])) (fun e => hrelease rest (by rw [hp, e]))
    rw [hu] at hstep
    cases hstep
    exact hkept
  · cases hstep
    exact (PendingKept.refl s).tick p

end

section
/-! PROOFS. Transactions of a port: what STATUS, READ, RESULT, ABORT and a discarded one leave, and the ends of a POST before its own
effect is judged (R191, R193, R194, R197, R198). -/

namespace Sys2Proof.Machine

variable {p : Port} {s : State}

/-! ## Transactions taken -/

/-- With RESETn high a transaction has its effect after its port's timer has been restarted (R178, R191). -/
theorem transaction_taken (hr : s.inReset = false) (p : Port) (f : State → State) :
    transaction p f s = f (s.setAuth (trafficAuth p s)) := by
  rw [transaction, hr, touch_eq]
  rfl

/-- A transaction that moves the record of its own port alone, its timer aside. -/
theorem traffic_putPort (p : Port) (x : PortRec) (s : State) :
    ((s.setAuth (trafficAuth p s)).putPort p x).port p = x
      ∧ (∀ q, q ≠ p → ((s.setAuth (trafficAuth p s)).putPort p x).port q = s.port q)
      ∧ (s.setAuth (trafficAuth p s)).putPort p x
        = { s with ports := ((s.setAuth (trafficAuth p s)).putPort p x).ports, auth := trafficAuth p s } :=
  ⟨State.port_putPort_same _ p x, fun q hq => State.port_putPort_other _ p q x hq, rfl⟩

/-! ## ABORT -/

theorem doAbort_idle (h : (s.port p).busy = none) : doAbort p s = s := by
  unfold doAbort
  rw [h]

theorem doAbort_again (h : (s.port p).abortRequested = true) : doAbort p s = s := by
  unfold doAbort
  split
  · rfl
  · rw [if_pos h]

theorem doAbort_first {n : ReqName} (hb : (s.port p).busy = some n) (h : (s.port p).abortRequested = false) :
    doAbort p s = abortRequest p n s := by
  simp [doAbort, hb, h]

/-- Where an abort is requested already, requesting it moves nothing. -/
theorem askAbort_again (h : (s.port p).abortRequested = true) : askAbort p s = s := by
  have hport : (s.port p).askAbort = s.port p := by
    unfold PortRec.askAbort
    rw [← h]
  unfold askAbort
  rw [hport]
  rcases p with (_ | _) | _ <;> rfl

/-- A request that runs on to its stopping point has its abort requested, whether or not it is so already (R198). -/
theorem doAbort_asks {n : ReqName} (hb : (s.port p).busy = some n) (hn : abortRequest p n s = askAbort p s) :
    doAbort p s = askAbort p s := by
  cases h : (s.port p).abortRequested with
  | true => rw [doAbort_again h, askAbort_again h]
  | false => rw [doAbort_first hb h, hn]

/-- A RELEARN that waits ends at once (R22). -/
theorem abortRelearn_waiting (h : ∀ n, s.chain.activity ≠ .enum n) :
    abortRelearn p s = endRelearn .aborted (some .byPort) .nothing s := by
  refine if_neg fun henum => ?_
  cases ha : s.chain.activity with
  | enum n => exact h n ha
  | _ =>
    rw [ha] at henum
    cases henum

theorem abortRelearn_enumerating {n : Nat} (h : s.chain.activity = .enum n) : abortRelearn p s = askAbort p s :=
  if_pos (by rw [h]; rfl)

/-! ## Posts -/

/-- The POST of a named request is posted with its own reader and effect; the reader refuses a block of another length (R204). -/
theorem exec_postOfName {n : ReqName} (hn : n.isNamed = true) (p : Port) (block : List Byte) :
    ∃ (α : Type) (x : Option α) (f : α → State → State), (block.length ≠ n.blockLength → x = none)
      ∧ ∀ s, exec (postOfName n p block) s = .next (posted n p x f s) := by
  cases n with
  | claim => exact ⟨_, readClaim block, doClaim p, fun h => if_neg h, fun _ => rfl⟩
  | release => exact ⟨_, readEmpty block, doRelease p, fun h => if_neg h, fun _ => rfl⟩
  | setShow => exact ⟨_, readShow block, doSetShow p, fun h => if_neg fun hb => h hb.1, fun _ => rfl⟩
  | freeze => exact ⟨_, readKey block, doFreeze p, fun h => if_neg fun hb => h hb.1, fun _ => rfl⟩
  | thaw => exact ⟨_, readKey block, doThaw p, fun h => if_neg fun hb => h hb.1, fun _ => rfl⟩
  | setBudget => exact ⟨_, readBudget block, doSetBudget p, fun h => if_neg h, fun _ => rfl⟩
  | putProfile => exact ⟨_, readPutProfile block, doPutProfile p, fun h => if_neg fun hb => h hb.1, fun _ => rfl⟩
  | dropProfile => exact ⟨_, readDrop block, doDropProfile p, fun h => if_neg h, fun _ => rfl⟩
  | putMap => exact ⟨_, readPutMap block, doPutMap p, fun h => if_neg h, fun _ => rfl⟩
  | clearMap => exact ⟨_, readEmpty block, doClearMap p, fun h => if_neg h, fun _ => rfl⟩
  | setTrack => exact ⟨_, readTrack block, doSetTrack p, fun h => if_neg h, fun _ => rfl⟩
  | setSlew => exact ⟨_, readSlew block, doSetSlew p, fun h => if_neg h, fun _ => rfl⟩
  | setTemp => exact ⟨_, readTemp block, doSetTemp p, fun h => if_neg h, fun _ => rfl⟩
  | setProtect => exact ⟨_, readProtect block, doSetProtect p, fun h => if_neg h, fun _ => rfl⟩
  | clearFaults => exact ⟨_, readClearFaults block, doClearFaults p, fun h => if_neg h, fun _ => rfl⟩
  | sweep => exact ⟨_, readSweep block, doSweep p, fun h => if_neg h, fun _ => rfl⟩
  | relearn => exact ⟨_, readEmpty block, doRelearn p, fun h => if_neg h, fun _ => rfl⟩
  | restartChain => exact ⟨_, readEmpty block, doRestartChain p, fun h => if_neg h, fun _ => rfl⟩
  | setNotice => exact ⟨_, readNotice block, doSetNotice p, fun h => if_neg h, fun _ => rfl⟩
  | unnamed code => cases hn

/-- A POST on a BUSY slot sets overrun, and its request is not judged (R193). -/
theorem posted_busy {α : Type} (n : ReqName) (x : Option α) (f : α → State → State) (hr : s.inReset = false)
    (hb : (s.port p).busy ≠ none) :
    posted n p x f s = (s.setAuth (trafficAuth p s)).putPort p { s.port p with overrun := true } := by
  have hpost : post n p (withBlock n p x f) s = (s.setAuth (trafficAuth p s)).putPort p { s.port p with overrun := true } := by
    rcases post_cases s n p x f with ⟨hlow, _⟩ | ⟨_, _, h⟩ | ⟨hfree, _⟩ | ⟨⟨hfree, _⟩, _⟩ | ⟨⟨hfree, _⟩, _⟩
    · exact absurd (hr.symm.trans hlow) nofun
    · rw [h, touch_eq]
    all_goals exact absurd hfree.2 hb
  rw [posted, event, hpost]
  exact notify_of_sameTiles rfl rfl

theorem exec_unknownPost {code : Byte} (hcode : requestCodeNamed code = false) (hr : s.inReset = false) (p : Port)
    (block : List Byte) :
    exec (.unknownRequestPost p code block) s = .next (unknownPost p code (s.setAuth (trafficAuth p s))) := by
  show Host.Outcome.next (if requestCodeNamed code = true then s else transaction p (unknownPost p code) s) = _
  rw [hcode, transaction_taken hr]
  rfl

theorem unknownPost_busy {code : Byte} (hb : (s.port p).busy ≠ none) :
    unknownPost p code s = s.putPort p { s.port p with overrun := true } :=
  if_pos (Option.isSome_iff_ne_none.mpr hb)

theorem unknownPost_free {code : Byte} (hb : (s.port p).busy = none) : unknownPost p code s = refuse p (.unnamed code) .range s :=
  if_neg (by rw [hb]; nofun)

/-- The codes that name no request lie outside 1..19 (R203). -/
theorem requestCodeNamed_false {code : Byte} (h : code.toNat = 0 ∨ 19 < code.toNat) : requestCodeNamed code = false := by
  simp only [requestCodeNamed, Bool.and_eq_false_iff, decide_eq_false_iff_not]
  omega

end Sys2Proof.Machine

open Sys2Proof Sys2Proof.Machine

/-- Settles O15: the reader refuses a block of another length, and a code that names no request is refused past no check. -/
theorem unreadablePostsAreRefusedRange : Obligations.UnreadablePostsAreRefusedRange := by
  refine ⟨fun n p block s hn hacc hlen => ?named, fun p code block s hcode hfree => ?unnamed⟩
  case named =>
    obtain ⟨_, x, f, hx, hexec⟩ := exec_postOfName hn p block
    exact ⟨_, hexec s, posted_unread hacc (hx hlen)⟩
  case unnamed =>
    obtain ⟨hr, hb⟩ := hfree
    have hrefused := unknownPost_free (p := p) (s := s.setAuth (trafficAuth p s)) (code := code) hb
    refine ⟨_, exec_unknownPost (requestCodeNamed_false hcode) hr p block, ?_⟩
    rw [hrefused]
    exact ⟨(complete_spec (s.setAuth (trafficAuth p s)) p (.unnamed code) .refused (some .range) .nothing).1, rfl⟩

/-- Settles O4: no transaction is taken while RESETn is low. -/
theorem chipSelectIsIgnoredInReset : Obligations.ChipSelectIsIgnoredInReset := fun c p s hc hr =>
  transaction_ignored hr c (by rw [hc]; nofun)

/-- Settles O6: the record is drawn after the timer's restart, which leaves it, and is then emptied of notices and overrun. -/
theorem statusDrawsThenClears : Obligations.StatusDrawsThenClears := fun p s hr =>
  ⟨_, congrArg Host.Outcome.next (transaction_taken hr p _), traffic_putPort p _ s⟩

/-- Settles O8: the response is the result block's bytes, and a discarded transaction restarts the timer alone. -/
theorem resultAndDiscardedChangeNothing : Obligations.ResultAndDiscardedChangeNothing := by
  intro p s hr
  refine ⟨⟨_, congrArg Host.Outcome.next (transaction_taken hr p _), ?_⟩, congrArg Host.Outcome.next (transaction_taken hr p id)⟩
  obtain ⟨hport, hother, hframe⟩ := traffic_putPort p ((s.port p).respond (resultBytes (s.port p))) s
  have hresponse := congrArg PortRec.response hport
  refine ⟨hport.trans (congrArg (s.port p).respond hresponse.symm), hother, hframe, fun hnone => hresponse.trans ?_,
    fun n v why d hsome => hresponse.trans ?_⟩
  · simp only [PortRec.respond, resultBytes, hnone]
  · simp only [PortRec.respond, resultBytes, hsome]
    rfl

/-- Settles O9: an IDLE slot and a second ABORT, then the requests by whether they end at once or have their abort requested. -/
theorem abortFollowsTheRequestInProgress : Obligations.AbortFollowsTheRequestInProgress := by
  intro p s hr
  have hexec : exec (.abort p) s = .next (doAbort p (s.setAuth (trafficAuth p s))) :=
    congrArg Host.Outcome.next (transaction_taken hr p _)
  refine ⟨fun hb => ?idle, fun hq => ?again, fun n hn hb => ?store, fun hb hq => ?claim, fun hb hq ht hwaits => ?relearn,
    fun n hb henum => ?enumerating⟩
  case idle => exact hexec.trans (congrArg Host.Outcome.next (doAbort_idle hb))
  case again => exact hexec.trans (congrArg Host.Outcome.next (doAbort_again hq))
  case store =>
    have hasks : abortRequest p n (s.setAuth (trafficAuth p s)) = askAbort p (s.setAuth (trafficAuth p s)) := by
      rcases hn with rfl | rfl | rfl | rfl <;> rfl
    exact ⟨_, hexec.trans (congrArg Host.Outcome.next (doAbort_asks hb hasks)), traffic_putPort p _ s⟩
  case claim =>
    exact ⟨_, hexec.trans (congrArg Host.Outcome.next (doAbort_first hb hq)),
      complete_noticeAll_spec (s.setAuth { trafficAuth p s with standby := none }) p .claim .aborted (some .byPort) .nothing
        { auth := true }, rfl⟩
  case relearn =>
    have hends := abortRelearn_waiting (p := p) (s := s.setAuth (trafficAuth p s)) hwaits
    exact ⟨_, hexec.trans (congrArg Host.Outcome.next ((doAbort_first (s := s.setAuth (trafficAuth p s)) hb hq).trans hends)),
      endRelearn_spec (s.setAuth (trafficAuth p s)) .aborted (some .byPort) .nothing p ht,
      endRelearn_frame (s.setAuth (trafficAuth p s)) _ _ _⟩
  case enumerating =>
    have hasks := abortRelearn_enumerating (p := p) (s := s.setAuth (trafficAuth p s)) henum
    exact ⟨_, hexec.trans (congrArg Host.Outcome.next (doAbort_asks hb hasks)), traffic_putPort p _ s⟩

/-- Settles O11: a named request, and a POST whose code names none. -/
theorem busySlotDiscardsThePost : Obligations.BusySlotDiscardsThePost := by
  intro n p block s hwf hr hb
  by_cases hn : n.isNamed = true
  · obtain ⟨_, x, f, _, hexec⟩ := exec_postOfName hn p block
    rw [hexec, posted_busy n x f hr hb]
    exact ⟨_, rfl, traffic_putPort p _ s⟩
  · cases n with
    | unnamed code =>
      have hcode : requestCodeNamed code = false := by simpa [postOfName, Instr.wf] using hwf
      have hbusy := unknownPost_busy (s := s.setAuth (trafficAuth p s)) (code := code) hb
      rw [postOfName, exec_unknownPost hcode hr, hbusy]
      exact ⟨_, rfl, traffic_putPort p _ s⟩
    | _ => exact absurd rfl hn

/-- Settles O14: whichever of the checks refuses, the request is not judged further. -/
theorem refusedRequestTouchesOnlyItsPort : Obligations.RefusedRequestTouchesOnlyItsPort := by
  intro n p block why s hn hfree hwhy
  obtain ⟨_, x, f, _, hexec⟩ := exec_postOfName hn p block
  exact ⟨_, hexec s, posted_denied hfree hwhy⟩

end

section
/-! PROOFS. The first three checks of a POST (R194): the issuer's right by R195's table, freeze, and the modal check; and SET-NOTICE,
which passes them all (R201). -/

namespace Sys2Proof.Machine

variable {n : ReqName} {p : Port} {s : State}

/-! ## The checks by the cell of R195's table -/

theorem admission_of_no (h : right n (standing s p) = .no) : admission n p s = some .noAuth := by
  unfold admission
  rw [h]

/-- A request subject to freeze that is no modal job. -/
theorem admission_of_freeze (h : right n (standing s p) = .freeze) (hm : n.modal = false) :
    admission n p s = if s.auth.key = none then none else some .frozen := by
  unfold admission State.frozen
  rw [h, hm]
  cases s.auth.key <;> rfl

theorem admission_of_frozen (h : right n (standing s p) = .freeze) (hk : s.auth.key ≠ none) :
    admission n p s = some .frozen := by
  unfold admission
  rw [h]
  exact if_pos (Option.isSome_iff_ne_none.mpr hk)

/-- A modal job posted with the right to, while the show is not frozen, comes to the modal check. -/
theorem admission_of_modal (h : right n (standing s p) = .freeze) (hm : n.modal = true) (hk : s.auth.key = none) :
    admission n p s = if modalRefuses s p then some .modal else none := by
  unfold admission State.frozen
  rw [h, hm, hk]
  rfl

/-- A programme port that does not hold authority has a right to CLAIM and SET-NOTICE alone (R195). -/
theorem right_nonHolder (hn : n.isNamed = true) (hclaim : n ≠ .claim) (hnotice : n ≠ .setNotice) : right n .nonHolder = .no := by
  cases n with
  | claim => exact absurd rfl hclaim
  | setNotice => exact absurd rfl hnotice
  | unnamed code => cases hn
  | _ => rfl

/-- The service port, and a programme port that holds authority. -/
theorem standing_of_issuer (h : p = .service ∨ ∃ q, p = .prog q ∧ s.auth.holder = some q) :
    standing s p = .service ∨ standing s p = .holder := by
  rcases h with rfl | ⟨q, rfl, hq⟩
  · exact .inl rfl
  · exact .inr (standing_holder hq)

theorem right_modal (hn : n = .sweep ∨ n = .relearn) (h : p = .service ∨ ∃ q, p = .prog q ∧ s.auth.holder = some q) :
    right n (standing s p) = .freeze ∧ n.modal = true := by
  rcases standing_of_issuer h with hs | hs <;> rw [hs] <;> rcases hn with rfl | rfl <;> exact ⟨rfl, rfl⟩

/-! ## The modal check -/

theorem isHolder_prog {q : Prog} : s.isHolder (.prog q) = true ↔ s.auth.holder = some q := by simp [State.isHolder]

theorem modalRefuses_of_sweep {x : Port} (ht : s.token = .sweep x) :
    modalRefuses s p = !(s.isHolder p && !s.isHolder x) := by
  unfold modalRefuses
  rw [ht]

/-! ## SET-NOTICE -/

theorem right_setNotice (x : Standing) : right .setNotice x = .yes := by cases x <;> rfl

/-- The set of classes that the mask byte names (R203). -/
theorem readNotice_byte {b : Byte} (hb : b.toNat < 64) : readNotice [b]
    = some ⟨b.getLsbD 0, b.getLsbD 1, b.getLsbD 2, b.getLsbD 3, b.getLsbD 4, b.getLsbD 5⟩ := by
  show noticesOf b.toNat = _
  unfold noticesOf
  rw [if_neg (by omega)]
  rfl

theorem union_job (x : Notices) : x.union { job := true } = { x with job := true } := by simp [Notices.union]

theorem port_doSetNotice (p : Port) (m : Notices) (s : State) : (doSetNotice p m s).port p
    = { s.port p with busy := none, abortRequested := false, result := some ⟨.setNotice, .done, none, .notice m⟩
                      pending := { (s.port p).pending with job := true }, mask := m } := by
  rw [doSetNotice, port_finish_same, State.port_putPort_same]
  unfold PortRec.complete
  dsimp only
  rw [union_job]

end Sys2Proof.Machine

open Sys2Proof Sys2Proof.Machine

/-- Settles O12, by the rows of R195's table. -/
theorem rightsOfThePorts : Obligations.RightsOfThePorts := by
  intro n s
  refine ⟨fun q hq hclaim hnotice hn => ?nonHolder, fun p hn => ?notice, fun q hn => ?claim, fun hn => ?service, fun hn => ?authority,
    fun hn p hp => ?wall, fun hn p hp => ?job, fun hn p hp => ?faults, fun hn => ?restart⟩
  case nonHolder =>
    refine admission_of_no ?_
    rw [standing_nonHolder hq]
    exact right_nonHolder hn hclaim hnotice
  case notice =>
    subst hn
    exact admission_of_yes (right_setNotice _) rfl
  case claim =>
    subst hn
    refine admission_of_yes ?_ rfl
    by_cases hq : s.auth.holder = some q
    · rw [standing_holder hq]
      rfl
    · rw [standing_nonHolder hq]
      rfl
  case service =>
    subst hn
    exact admission_of_no rfl
  case authority =>
    refine ⟨admission_of_no (p := .service) ?_, fun q hq => admission_of_yes (p := .prog q) ?_ ?_⟩
    · rcases hn with rfl | rfl | rfl | rfl | rfl <;> rfl
    · rw [standing_holder hq]
      rcases hn with rfl | rfl | rfl | rfl | rfl <;> rfl
    · rcases hn with rfl | rfl | rfl | rfl | rfl <;> rfl
  case wall =>
    refine admission_of_freeze ?_ ?_
    · rcases standing_of_issuer hp with h | h <;> rw [h] <;> rcases hn with rfl | rfl | rfl | rfl | rfl | rfl | rfl | rfl <;> rfl
    · rcases hn with rfl | rfl | rfl | rfl | rfl | rfl | rfl | rfl <;> rfl
  case job =>
    obtain ⟨hright, hmodal⟩ := right_modal hn hp
    refine ⟨admission_of_frozen hright, fun hk ht => (admission_of_modal hright hmodal hk).trans ?_⟩
    unfold modalRefuses
    rw [ht]
    rfl
  case faults =>
    subst hn
    refine admission_of_yes ?_ rfl
    rcases standing_of_issuer hp with h | h <;> rw [h] <;> rfl
  case restart =>
    subst hn
    exact ⟨admission_of_freeze rfl rfl, fun q hq => admission_of_yes (by rw [standing_holder hq]; rfl) rfl⟩

/-- Settles O13, by who holds the token and who posts. -/
theorem modalCheckProtectsTheToken : Obligations.ModalCheckProtectsTheToken := by
  intro n p s hn hk hp
  obtain ⟨hright, hmodal⟩ := right_modal hn hp
  have hcheck := admission_of_modal hright hmodal hk
  refine ⟨fun x ht => ?relearn, fun x ht hservice => ?service, fun q ht hq => ?holders, fun q x ht hpq hx => ?preempts⟩
  case relearn =>
    rw [hcheck]
    unfold modalRefuses
    rw [ht]
    rfl
  case service =>
    rw [hcheck, modalRefuses_of_sweep ht, hservice]
    rfl
  case holders =>
    rw [hcheck, modalRefuses_of_sweep ht, isHolder_prog.mpr hq]
    simp
  case preempts =>
    subst hpq
    have hq : s.auth.holder = some q := by
      rcases hp with hp | ⟨r, hr, hq⟩
      · cases hp
      · rw [hq, Port.prog.inj hr]
    have hissuer : s.isHolder x = false := by
      cases x with
      | service => rfl
      | prog r =>
        refine Bool.eq_false_iff.mpr fun h => hx ?_
        rw [Option.some.inj ((isHolder_prog.mp h).symm.trans hq)]
    rw [hcheck, modalRefuses_of_sweep ht, isHolder_prog.mpr hq, hissuer]
    rfl

/-- Settles O16: the request is accepted from every port, and completes with the mask set. -/
theorem setNoticeSetsItsOwnMask : Obligations.SetNoticeSetsItsOwnMask := by
  intro p b s hfree hb
  have hacc : Accepts .setNotice p s := ⟨hfree, admission_of_yes (right_setNotice _) rfl⟩
  have hexec : ∀ m, readNotice [b] = some m →
      exec (.setNotice p [b]) s = .next (doSetNotice p m (s.setAuth (trafficAuth p s))) := by
    intro m hm
    refine congrArg Host.Outcome.next ((posted_accepted s hacc hm).trans ?_)
    exact notify_of_sameTiles rfl rfl
  have hport := fun m => port_doSetNotice p m (s.setAuth (trafficAuth p s))
  have hbusy : (s.port p).busy = none := hfree.2
  refine ⟨_, _, hexec _ (readNotice_byte hb), rfl, ?_, fun q hq => ?_, rfl, ?_⟩
  · rw [hport, State.port_setAuth, ← hbusy]
  · rw [doSetNotice, port_finish_other _ _ hq, State.port_putPort_other _ p q _ hq, State.port_setAuth]
  · have hup : ∀ m, (doSetNotice p m (s.setAuth (trafficAuth p s))).inReset = false := fun _ => hfree.1
    unfold State.attentionLow
    rw [hup, hport]
    rfl

end

section
/-! PROOFS. READ: the record that each kind code and index name, and the bytes returned (R202, R203, R205). -/

namespace Sys2Proof.Machine

variable {s : State}

/-! ## Fields -/

theorem u8_toNat (b : Byte) : u8 b.toNat = [b] := by rw [u8, BitVec.ofNat_toNat, BitVec.setWidth_eq]

theorem length_append_of {xs ys : List Byte} {m n : Nat} (hx : xs.length = m) (hy : ys.length = n) :
    (xs ++ ys).length = m + n := by
  rw [List.length_append, hx, hy]

/-- A profile image is 48 bytes long: an optional group occupies its bytes whether or not it is held (R203, R205). -/
theorem length_profileImage (r : Profile) : (profileImage r).length = 48 := by
  refine length_append_of (n := 10) ?_ (by cases r.sense <;> rfl)
  refine length_append_of (n := 1) ?_ (by cases r.mode <;> rfl)
  refine length_append_of (n := 3) ?_ (by cases r.tempSource <;> rfl)
  refine length_append_of (n := 2) ?_ (by cases r.power <;> rfl)
  refine length_append_of (n := 3) ?_ (by cases r.href <;> rfl)
  refine length_append_of (n := 6) ?_ (by cases r.ageing <;> rfl)
  refine length_append_of (n := 6) ?_ (by cases r.thermal <;> rfl)
  refine length_append_of (n := 7) ?_ (by cases r.luminance <;> rfl)
  refine length_append_of (n := 1) ?_ (by cases r.link <;> rfl)
  refine length_append_of (m := 3) (n := 6) ?_ (by cases r.serial <;> rfl)
  rfl
/-! ## Responses -/

section
variable {kind i0 i1 : Nat}

theorem readBytes_ok {record : List Byte} (h : readRecord s kind i0 i1 = (.ok, record)) :
    readBytes s kind i0 i1 = okResponse record := by
  rw [readBytes, h]
  rfl

theorem readBytes_range (h : readRecord s kind i0 i1 = (.range, [])) : readBytes s kind i0 i1 = [1, 0, 0] := by
  rw [readBytes, h]
  rfl

theorem readBytes_empty (h : readRecord s kind i0 i1 = (.empty, [])) : readBytes s kind i0 i1 = [2, 0, 0] := by
  rw [readBytes, h]
  rfl

end

/-! ## The tile record -/

theorem readRecord_noTile {i0 i1 : Nat} (h : 64 ≤ i0 * 256 + i1) : readRecord s 1 i0 i1 = (.range, []) := by
  simp only [readRecord, slotOf_of_ge h]

theorem readRecord_tile {i0 i1 : Nat} {i : Slot} (h : i0 * 256 + i1 = i.val) :
    readRecord s 1 i0 i1 = (.ok, encode (tileItems s i)) := by
  simp only [readRecord, h, slotOf_val]

/-! ## A profile -/

theorem readRecord_noIndex {i0 i1 : Nat} (h : i0 * 256 + i1 = 0 ∨ 96 < i0 * 256 + i1) :
    readRecord s 5 i0 i1 = (.range, []) := by
  have hindex : ¬(1 ≤ i0 * 256 + i1 ∧ i0 * 256 + i1 ≤ 96) := by omega
  simp only [readRecord, if_neg hindex]

section
variable {i0 i1 : Nat} (hlo : 1 ≤ i0 * 256 + i1) (hhi : i0 * 256 + i1 ≤ 96)
include hlo hhi

theorem readRecord_noProfile (h : s.store.profile (i0 * 256 + i1) = none) : readRecord s 5 i0 i1 = (.empty, []) := by
  simp only [readRecord, if_pos (And.intro hlo hhi), h]

theorem readRecord_profile {r : Profile} (h : s.store.profile (i0 * 256 + i1) = some r) :
    readRecord s 5 i0 i1 = (.ok, u8 i1 ++ profileImage r) := by
  have hindex : i0 * 256 + i1 = i1 := by omega
  simp only [readRecord, if_pos (And.intro hlo hhi), h]
  rw [hindex]

end

theorem okResponse_profile (i : Byte) (r : Profile) : okResponse ([i] ++ profileImage r) = [0, 0, 49, i] ++ profileImage r := by
  have hlength : ([i] ++ profileImage r).length = 1 + 48 := length_append_of rfl (length_profileImage r)
  rw [okResponse, hlength]
  rfl

/-! ## A map entry -/

theorem readRecord_noPos {i0 i1 : Nat} (h : 16 ≤ i0 ∨ 16 ≤ i1) : readRecord s 6 i0 i1 = (.range, []) := by
  have hpos : posOf i0 i1 = none := dif_neg (by omega)
  simp only [readRecord, hpos]

/-- The map-entry record: position, content, and the state of the slot that the entry names (R205). -/
def entryItems (s : State) (x : Pos) : List Item :=
  [ .always (u8 x.col.val), .always (u8 x.row.val), .always (u8 (contentCode (s.store.entry x)))
  , opt 1 (fun i : Slot => u8 (s.tile i).chain.state.code) (s.store.entry x) ]

theorem readRecord_entry (x : Pos) : readRecord s 6 x.col.val x.row.val = (.ok, encode (entryItems s x)) := by
  have hpos : posOf x.col.val x.row.val = some x := dif_pos ⟨x.col.isLt, x.row.isLt⟩
  simp only [readRecord, hpos]
  rfl

theorem encode_entryItems_empty {x : Pos} {i0 i1 : Byte} (hcol : i0.toNat = x.col.val) (hrow : i1.toNat = x.row.val)
    (h : s.store.entry x = none) : encode (entryItems s x) = [0, i0, i1, 255, 0] := by
  unfold entryItems
  rw [h, ← hcol, ← hrow, u8_toNat, u8_toNat]
  rfl

theorem encode_entryItems_slot {x : Pos} {i0 i1 : Byte} (hcol : i0.toNat = x.col.val) (hrow : i1.toNat = x.row.val) {i : Slot}
    (h : s.store.entry x = some i) : encode (entryItems s x)
      = [1, i0, i1, BitVec.ofNat 8 i.val, BitVec.ofNat 8 (s.tile i).chain.state.code] := by
  unfold entryItems
  rw [h, ← hcol, ← hrow, u8_toNat, u8_toNat]
  rfl

/-! ## Kind codes that name no record -/

theorem readRecord_noKind {kind : Nat} (h : kind = 0 ∨ 8 < kind) (i0 i1 : Nat) : readRecord s kind i0 i1 = (.range, []) := by
  unfold readRecord
  dsimp only
  split
  case h_9 => rfl
  all_goals omega

end Sys2Proof.Machine

open Sys2Proof Sys2Proof.Machine

/-- Settles O7, kind by kind, from the state after the timer's restart, which shows in the authority record alone. -/
theorem readAnswersAndChangesNothing : Obligations.ReadAnswersAndChangesNothing := by
  intro p kind i0 i1 s hr
  obtain ⟨hport, hother, hframe⟩ := traffic_putPort p
    ((s.port p).respond (readBytes (s.setAuth (trafficAuth p s)) kind.toNat i0.toNat i1.toNat)) s
  have hresponse := congrArg PortRec.response hport
  refine ⟨_, congrArg Host.Outcome.next (transaction_taken hr p _), hother, hframe,
    hport.trans (congrArg (s.port p).respond hresponse.symm), ?_⟩
  have hrange := fun h => hresponse.trans (readBytes_range (s := s.setAuth (trafficAuth p s)) h)
  have hok := fun record h => hresponse.trans (readBytes_ok (s := s.setAuth (trafficAuth p s)) (record := record) h)
  refine ⟨fun hk h => ?noTile, fun i hk h => ?tile, fun hk => ?wall, fun hk => ?shown, fun hk => ?authority,
    fun hk h => ?noIndex, fun hk hlo hhi h => ?noProfile, fun r hk hlo hhi h => ?profile, fun hk h => ?noPos,
    fun x hk hcol hrow => ⟨fun h => ?emptyEntry, fun i h => ?entry⟩, fun hk => ?store, fun hk => ?settings, fun h => ?noKind⟩
  case wall | shown | authority | store | settings =>
    subst hk
    exact hok _ rfl
  case noTile =>
    subst hk
    exact hrange (readRecord_noTile h)
  case tile =>
    subst hk
    exact hok _ (readRecord_tile h)
  case noIndex =>
    subst hk
    exact hrange (readRecord_noIndex h)
  case noProfile =>
    subst hk
    exact hresponse.trans (readBytes_empty (readRecord_noProfile hlo hhi h))
  case profile =>
    subst hk
    rw [← okResponse_profile, ← u8_toNat]
    exact hok _ (readRecord_profile hlo hhi h)
  case noPos =>
    subst hk
    exact hrange (readRecord_noPos h)
  case emptyEntry =>
    subst hk
    rw [← encode_entryItems_empty hcol hrow h]
    refine hok _ ?_
    rw [hcol, hrow]
    exact readRecord_entry x
  case entry =>
    subst hk
    rw [← encode_entryItems_slot hcol hrow h]
    refine hok _ ?_
    rw [hcol, hrow]
    exact readRecord_entry x
  case noKind => exact hrange (readRecord_noKind (h.imp_left fun hk => by rw [hk]; rfl) _ _)

end

section
/-! PROOFS. One step of the part: what it makes of a queue that is not empty (log entry 2). -/

namespace Sys2Proof.Machine

theorem step_of_pending_cons {s : State} {c : Instr} {rest : List Instr} (h : s.pending = c :: rest) :
    step s = exec c (s.setPending rest) := by
  rw [step, h]

end Sys2Proof.Machine

open Sys2Proof Sys2Proof.Machine

/-- Settles O1, by `step`'s equation at a queue that is not empty. -/
theorem stepTakesTheFrontCommand : Obligations.StepTakesTheFrontCommand := by
  intro s c rest hpending
  exact step_of_pending_cons hpending

end
